-- ==== Sys2Proof/Word.lean ====
section
/-! DEFINITION. The words of the link: a byte and a two-byte field of a frame (spec/12, R181). Every other quantity of
the KG240 is a whole number of amperes, volts, milliseconds or counts (spec/00 section 5.1) and is a `Nat` or an `Int`;
the counters the manual lets wrap (sweep number, alarm number, frame number) are bit vectors of their width. -/
namespace Sys2Proof

/-- One byte of a frame (R171). -/
abbrev Byte := BitVec 8

/-- A two-byte field of a request, least significant byte first on the wire (R181). -/
abbrev Half := BitVec 16

/-- The 12-bit code of one channel's conversion, 0..4095 (R1). -/
abbrev RawCode := BitVec 12

end Sys2Proof
end

