-- ==== Sys2Proof/Syntax.lean ====
section
/-! DEFINITION. The commands of the KG240, one constructor per row of spec/opcode_table.json: what reaches the part's
inputs, its own timers' expiries, and the complete request frames its ports receive. -/
namespace Sys2Proof

/-- A link port, P0 to P3. -/
abbrev PortId := Fin 4

/-- A measurement channel, CH0 to CH7. -/
abbrev Channel := Fin 8

/-- An auxiliary slot, A0 to A11. -/
abbrev Slot := Fin 12

/-- The two trolley poles (spec/00 section 5.3). -/
inductive Pole where
  | pos
  | neg
  deriving DecidableEq, Repr

/-- Why a frame was abandoned on reception (R171): a parity or framing error on one of its bytes, a length byte outside
2..60, or a check byte that does not agree. -/
inductive FrameFailure where
  | byteError
  | badLength
  | badCheck
  deriving DecidableEq, Repr

/-- One entry of a SECTION_WRITE as carried: id, I_feed, I_rgmax, permitted (0 no, 1 yes), override (0 absent) (R181). -/
structure SectionFields where
  id : Half
  iFeed : Half
  iRgmax : Half
  permitted : Byte
  override : Half
  deriving DecidableEq, Repr

/-- The configured part an AUX_WRITE carries, field by field (R181). -/
structure AuxFields where
  tier : Byte
  mode : Byte
  iRun : Half
  iIn : Half
  tIn : Half
  tOnMin : Half
  tOffMin : Half
  tRun : Half
  autoRestart : Byte
  deriving DecidableEq, Repr

/-- The commands of the block. A request names the port whose complete frame is taken and the frame's tag; its other
operands are the payload fields of R181. -/
inductive Instr where
  -- events of the inputs and of the part's own timers
  | sweepCompletion (codes : Vector RawCode 8)
  | seatTimerExpiry (pole : Pole)
  | gapTimerExpiry
  | loweringTimerExpiry
  | windowExpiry
  | frameExpiry
  | recloseExpiry
  | inrushExpiry (slot : Slot)
  | onTimerExpiry (slot : Slot)
  | runTimerExpiry (slot : Slot)
  | offInhibitExpiry (slot : Slot)
  | stallTimerExpiry
  | saveCompletion (agrees : Bool)
  | receiveGapTimeout (port : PortId)
  | frameCheckFailed (port : PortId) (failure : FrameFailure)
  | unknownRequest (port : PortId) (tag : Byte) (kind : Byte)
  | transmitComplete (port : PortId)
  | powerOn
  | supplyLow
  | retentionLost
  | supplyStableExpiry
  | pinResetAssert
  | pinResetRelease
  -- the reads
  | readAllotment (port : PortId) (tag : Byte)
  | readContact (port : PortId) (tag : Byte)
  | readAlarms (port : PortId) (tag : Byte) (position : Byte)
  | readHistory (port : PortId) (tag : Byte) (position : Byte)
  | readFaults (port : PortId) (tag : Byte) (kind : Byte)
  | readAux (port : PortId) (tag : Byte) (slot : Byte)
  | readSection (port : PortId) (tag : Byte) (position : Byte)
  | readMeasure (port : PortId) (tag : Byte)
  | readItem (port : PortId) (tag : Byte) (item : Half)
  | portStatus (port : PortId) (tag : Byte) (named : Byte) (clear : Byte)
  | poll (port : PortId) (tag : Byte)
  -- the requests of the traction, auxiliary and cab controllers
  | demand (port : PortId) (tag : Byte) (mode : Byte) (magnitude : Half)
  | auxStart (port : PortId) (tag : Byte) (slot : Byte)
  | auxStop (port : PortId) (tag : Byte) (slot : Byte)
  | setItem (port : PortId) (tag : Byte) (item : Half) (value : Half)
  | auxWrite (port : PortId) (tag : Byte) (slot : Byte) (part : AuxFields)
  | auxRemove (port : PortId) (tag : Byte) (slot : Byte)
  | sectionWrite (port : PortId) (tag : Byte) (entries : List SectionFields)
  | sectionErase (port : PortId) (tag : Byte)
  | sectionSet (port : PortId) (tag : Byte) (id : Half)
  | sectionAhead (port : PortId) (tag : Byte) (id : Half)
  | routeWrite (port : PortId) (tag : Byte) (kind : Byte) (mask : Byte) (enable : Byte)
  | ackAlarm (port : PortId) (tag : Byte) (number : Half)
  | clearHistory (port : PortId) (tag : Byte)
  | setHistoryPolicy (port : PortId) (tag : Byte) (policy : Byte)
  | clearFault (port : PortId) (tag : Byte) (kind : Byte)
  | raiseFault (port : PortId) (tag : Byte) (number : Byte) (cls : Byte)
  | clearFlags (port : PortId) (tag : Byte)
  | mode (port : PortId) (tag : Byte) (target : Byte)
  | check (port : PortId) (tag : Byte) (level : Byte)
  | save (port : PortId) (tag : Byte)
  | reset (port : PortId) (tag : Byte)
  | lower (port : PortId) (tag : Byte)
  | raise (port : PortId) (tag : Byte)
  | battery (port : PortId) (tag : Byte) (state : Byte)
  | tractionInhibit (port : PortId) (tag : Byte) (value : Byte)
  -- one byte at a port's receiver, with its parity or framing error
  | byteReceived (port : PortId) (byte : Byte) (error : Bool)
  deriving DecidableEq, Repr

end Sys2Proof
end

