-- ==== Sys2Proof/Machine/Types.lean ====
section
/-! DEFINITION. The data of the KG240's blocks: one type for each record, table entry, notice and reply content that the
chapters name. -/
namespace Sys2Proof.Machine

/-- A timer of any block: stopped, running with the milliseconds remaining, or, for the timers whose rule says so
(gap, window, on-timer, stall), expired and staying so. -/
inductive Timer where
  | stopped
  | running (remaining : Nat)
  | expired
  deriving DecidableEq, Repr

/-! ## Link settings and operating mode -/

/-- The operating mode (R157). -/
inductive Mode where
  | setup
  | run
  | halt
  deriving DecidableEq, Repr

/-- The role of the controller on a port (R170). -/
inductive Role where
  | cab
  | traction
  | auxiliary
  | roof
  | monitor
  deriving DecidableEq, Repr

/-- A port's rate in bit/s (R170). -/
inductive Rate where
  | b19200
  | b57600
  | b115200
  | b230400
  deriving DecidableEq, Repr

/-- A port's parity (R170). -/
inductive Parity where
  | none
  | even
  | odd
  deriving DecidableEq, Repr

/-- A port's polarity (R170). -/
inductive Polarity where
  | normal
  | inverted
  deriving DecidableEq, Repr

/-- A port's duplex (R170). -/
inductive Duplex where
  | full
  | half
  deriving DecidableEq, Repr

/-- Line settings and role of a port (R170). -/
structure PortSettings where
  rate : Rate
  parity : Parity
  polarity : Polarity
  duplex : Duplex
  role : Role
  deriving DecidableEq, Repr

/-! ## Measurement unit (chapter 1) -/

/-- A calibration record: the raw code of zero and the span over 4096 codes (R2). -/
structure Calibration where
  offset : Nat
  gain : Nat
  deriving DecidableEq, Repr

/-- A sample set: sweep number, eight values, eight at-limit flags (R7). -/
structure SampleSet where
  number : BitVec 16
  values : Vector Int 8
  atLimit : Vector Bool 8
  deriving DecidableEq, Repr

/-- What a channel holds besides its calibration record (section 1.4). -/
structure ChannelState where
  held : Int
  heldAtLimit : Bool
  fault : Bool
  railCount : Nat
  deriving DecidableEq, Repr

/-! ## Contact monitor (chapter 2) -/

/-- The four monitors, by name. -/
inductive MonitorId where
  | loss
  | anglePos
  | angleNeg
  | overvolt
  deriving DecidableEq, Repr

/-- One value for each of the four monitors. -/
structure PerMonitor (α : Type) where
  loss : α
  anglePos : α
  angleNeg : α
  overvolt : α
  deriving DecidableEq, Repr

/-- One value for each of the two poles. -/
structure PerPole (α : Type) where
  pos : α
  neg : α
  deriving DecidableEq, Repr

/-- A monitor's state (R14). -/
inductive MonitorState where
  | disabled
  | settling
  | clear
  | asserted
  deriving DecidableEq, Repr

/-- The class of an angle assertion (R15). -/
inductive ConditionClass where
  | lateral
  | high
  | low
  deriving DecidableEq, Repr

/-- What a monitor holds (R14). -/
structure Monitor where
  state : MonitorState
  settling : Nat
  decimation : Nat
  filter : Nat
  detected : Bool
  cls : Option ConditionClass
  deriving DecidableEq, Repr

/-- A monitor's filter mode (R16, R17). -/
inductive FilterMode where
  | filtered
  | direct
  deriving DecidableEq, Repr

/-- A monitor's enable, filter mode and decimation settings (section 2.6). -/
structure MonitorSetting where
  enable : Bool
  mode : FilterMode
  decimation : Nat
  deriving DecidableEq, Repr

/-- The contact monitor's settings (section 2.6). -/
structure ContactSettings where
  vLoss : Nat
  hLoss : Nat
  vOv : Nat
  hOv : Nat
  latLimit : Nat
  elevMin : Nat
  elevMax : Nat
  hAng : Nat
  monitors : PerMonitor MonitorSetting
  stowLevel : Nat
  seatTime : Nat
  gapMax : Nat
  lowerTimeMax : Nat
  deriving DecidableEq, Repr

/-- A pole's state (R24). -/
inductive PoleState where
  | unknown
  | stowed
  | raising
  | onWire
  | lowering
  | dewired
  deriving DecidableEq, Repr

/-- A pole record (R24). -/
structure PoleRecord where
  state : PoleState
  stowCount : Nat
  seat : Timer
  lastClass : Option ConditionClass
  deriving DecidableEq, Repr

/-- The vehicle contact state (R30). -/
inductive ContactState where
  | contact
  | gap
  | lost
  | dropped
  | offWire
  deriving DecidableEq, Repr

/-! ## Alarm unit (chapter 3) -/

/-- The key of an active alarm: a kind and, for the pole kinds, a pole (R37). -/
inductive AlarmKey where
  | poleDrop (pole : Pole)
  | raiseMiss (pole : Pole)
  | lineLost
  | lowerStuck
  deriving DecidableEq, Repr

/-- The state of an active alarm (R38). -/
inductive AlarmState where
  | activeUnack
  | activeAck
  | goneUnack
  deriving DecidableEq, Repr

/-- The snapshot of a raise or a repeat (R41). -/
structure Snapshot where
  vl : Int
  il : Int
  lateral : Option Int
  elevation : Option Int
  traction : Nat
  before : ContactState
  sectionId : Option Nat
  deriving DecidableEq, Repr

/-- An entry of the active alarm list (R38). -/
structure AlarmEntry where
  number : BitVec 16
  key : AlarmKey
  cls : Option ConditionClass
  state : AlarmState
  raiseFrame : BitVec 32
  snapshot : Snapshot
  repeats : Nat
  ackPort : Option PortId
  deriving DecidableEq, Repr

/-- An entry of the alarm history (R50). -/
structure HistoryEntry where
  number : BitVec 16
  key : AlarmKey
  cls : Option ConditionClass
  raiseFrame : BitVec 32
  snapshot : Snapshot
  repeats : Nat
  deriving DecidableEq, Repr

/-- The history policy (R50). -/
inductive HistoryPolicy where
  | latest
  | first
  | off
  deriving DecidableEq, Repr

/-! ## Section unit (chapter 4) -/

/-- An entry of the section table (R55). -/
structure SectionEntry where
  id : Nat
  iFeed : Nat
  iRgmax : Nat
  permitted : Bool
  gapOverride : Option Nat
  deriving DecidableEq, Repr

/-- The expectation record, when present (R62). -/
structure Expectation where
  pendingId : Nat
  window : Timer
  gapSeen : Bool
  deriving DecidableEq, Repr

/-- The section unit's settings (section 4.7). -/
structure SectionSettings where
  iFeedDefault : Nat
  iRgmaxDefault : Nat
  expectWindow : Nat
  deriving DecidableEq, Repr

/-- The limits in use with the current section, as a limit change hands them (R57). -/
structure Limits where
  iFeed : Nat
  iRgmax : Nat
  permitted : Bool
  deriving DecidableEq, Repr

/-- The check of R58 that stopped a SECTION_WRITE. -/
inductive SectionFault where
  | id
  | iFeed
  | iRgmax
  | regen
  | gapOverride
  | tableFull
  deriving DecidableEq, Repr

/-! ## Allotment unit (chapters 5 to 7) -/

/-- The settings of section 5.6. -/
structure LineSettings where
  tF : Nat
  vFloor : Nat
  vKnee : Nat
  sUp : Nat
  rCom : Nat
  tRc : Nat
  deriving DecidableEq, Repr

/-- The settings of section 6.7. -/
structure BatterySettings where
  vBatMin : Nat
  vBatLow : Nat
  iBatMax : Nat
  iBatChg : Nat
  vChgTaper : Nat
  vBatFull : Nat
  vOvk : Nat
  vMax : Nat
  boost : Bool
  charge : Bool
  deriving DecidableEq, Repr

/-- The settings of section 7.5. -/
structure DemandSettings where
  holdFrames : Nat
  staleDecay : Nat
  cutoffFrames : Nat
  tol : Nat
  odWarn : Nat
  odStop : Nat
  deriving DecidableEq, Repr

/-- The means of a frame (R72). -/
structure Means where
  vL : Int
  iL : Int
  vB : Int
  iB : Int
  deriving DecidableEq, Repr

/-- The factors of a record, each 0..1024 (R75, R77, R102, R104). -/
structure Factors where
  kV : Nat
  kB : Nat
  kOv : Nat
  kC : Nat
  deriving DecidableEq, Repr

/-- The flags of a record (R84). -/
structure RecordFlags where
  cut : Bool
  sag : Bool
  inhibit : Bool
  stale : Bool
  deriving DecidableEq, Repr

/-- The allotment record (R83). -/
structure Record where
  frame : BitVec 32
  mode : Mode
  lineAvailable : Bool
  means : Means
  factors : Factors
  bLine : Nat
  bBat : Nat
  aEssLine : Nat
  aCprot : Nat
  aCres : Nat
  aCfree : Nat
  aCh : Nat
  aTrLine : Nat
  aRgLine : Nat
  aEssBat : Nat
  aTrBat : Nat
  aRgBat : Nat
  aRgAux : Nat
  aRg : Nat
  hLine : Nat
  hBat : Nat
  shortfall : Nat
  flags : RecordFlags
  deriving DecidableEq, Repr

/-- The five frame accumulators (R71). -/
structure Accumulators where
  vL : Int
  iL : Int
  vB : Int
  iB : Int
  n : Nat
  deriving DecidableEq, Repr

/-- The sag reference (R84). -/
inductive SagReference where
  | full
  | reduced
  deriving DecidableEq, Repr

/-- The demand mode (R112). -/
inductive DemandMode where
  | motor
  | brake
  | coast
  deriving DecidableEq, Repr

/-- The traction demand record, when present (R112). -/
structure DemandRecord where
  mode : DemandMode
  received : Nat
  effective : Nat
  age : Nat
  silent : Bool
  deriving DecidableEq, Repr

/-- The source of the setting that set traction inhibit (R116). -/
inductive InhibitSource where
  | cab
  | overdraw
  | demandSilent
  deriving DecidableEq, Repr

/-! ## Auxiliary sequencer (chapters 8 and 9) -/

/-- The tier of an auxiliary (R122). -/
inductive Tier where
  | essential
  | comfort
  deriving DecidableEq, Repr

/-- The mode of an auxiliary (R122). -/
inductive AuxMode where
  | continuous
  | timed
  deriving DecidableEq, Repr

/-- The configured part of an auxiliary record (R122). Currents in A, t_in in ms, the other times in s. -/
structure AuxConfig where
  tier : Tier
  mode : AuxMode
  iRun : Nat
  iIn : Nat
  tIn : Nat
  tOnMin : Nat
  tOffMin : Nat
  tRun : Option Nat
  autoRestart : Bool
  deriving DecidableEq, Repr

/-- The state of an auxiliary record (R123). -/
inductive AuxState where
  | idle
  | cooldown
  | queued
  | starting
  | running
  | shed
  deriving DecidableEq, Repr

/-- A present auxiliary record: configured part, runtime part, optional pending part (R122, R123, R125). -/
structure AuxRecord where
  config : AuxConfig
  state : AuxState
  want : Bool
  inrush : Timer
  onTimer : Timer
  runTimer : Timer
  offInhibit : Timer
  stamp : Option Nat
  stalled : Bool
  pendingPart : Option AuxConfig
  deriving DecidableEq, Repr

/-- The sequencer's settings (sections 8.8, 9.6). -/
structure AuxSettings where
  startWaitMax : Nat
  shedFrames : Nat
  deriving DecidableEq, Repr

/-- The three demand totals (R79). -/
structure DemandTotals where
  dEss : Nat
  dCprot : Nat
  dCfree : Nat
  deriving DecidableEq, Repr

/-! ## Event router (chapter 10) -/

/-- The sixteen event kinds (R149), in their numbering. -/
inductive EventKind where
  | poleDrop
  | raiseMiss
  | lineLost
  | lowerStuck
  | gapUnexpected
  | sectionNoGap
  | sag
  | overvolt
  | overdraw
  | overdrawPersist
  | demandSilent
  | essentialShort
  | startStalled
  | measureFault
  | configCorrupt
  | userFault
  deriving DecidableEq, Repr

/-- The class of an event (R149). -/
inductive EventClass where
  | advisory
  | stopping
  deriving DecidableEq, Repr

/-- The detail of an event, or its absence (R149). -/
inductive Detail where
  | absent
  | pole (p : Pole)
  | sectionId (id : Option Nat)
  | channel (c : Channel)
  | slot (s : Slot)
  | user (n : Nat)
  deriving DecidableEq, Repr

/-- An event as the router takes it (R149). -/
structure Event where
  kind : EventKind
  cls : EventClass
  detail : Detail
  deriving DecidableEq, Repr

/-- A fault latch (R153). -/
inductive Latch where
  | none
  | advisory
  | stopping
  deriving DecidableEq, Repr

/-- A fault-table entry (R153). -/
structure FaultEntry where
  latch : Latch
  count : Nat
  lastFrame : BitVec 32
  lastDetail : Detail
  deriving DecidableEq, Repr

/-- A routing-table entry: the notify mask (bit i names port Pi) and the action-enable flag (R150). -/
structure RouteEntry where
  mask : BitVec 4
  action : Bool
  deriving DecidableEq, Repr

/-- The cause a MODE notice carries (R157, R164). -/
inductive ModeCause where
  | request
  | startUp
  | fault (kind : EventKind)
  | saveDone (valid : Bool)
  deriving DecidableEq, Repr

/-! ## Configuration store (chapter 11) -/

/-- The contents of the image but for its checksum (R162). -/
structure Image where
  ports : Vector PortSettings 4
  calib : Vector Calibration 8
  sweepPeriod : Nat
  contact : ContactSettings
  sections : SectionSettings
  sectionTable : List SectionEntry
  line : LineSettings
  battery : BatterySettings
  demand : DemandSettings
  aux : AuxSettings
  auxTable : Vector (Option AuxConfig) 12
  routing : Vector RouteEntry 16
  policy : HistoryPolicy
  autoRun : Bool
  deriving DecidableEq, Repr

/-- What the non-volatile memory holds (R162, R163): every byte erased; an image's contents with a stored checksum of 16
bits, right or wrong; or the torn contents of a rewrite that did not reach its completion or did not take (log 10). -/
inductive NvMemory where
  | erased
  | written (image : Image) (checksum : BitVec 16)
  | torn
  deriving DecidableEq, Repr

/-- The image state (R162, R163). -/
inductive ImageState where
  | blank
  | valid
  | corrupt
  | writing
  deriving DecidableEq, Repr

/-- A save in flight: its snapshot and the milliseconds it has run (R163, R169). -/
structure SaveInFlight where
  snapshot : Image
  elapsed : Nat
  deriving DecidableEq, Repr

/-- The kinds of reset (R165). -/
inductive ResetCause where
  | powerOn
  | pin
  | supplyLow
  | link
  deriving DecidableEq, Repr

/-- The class of a plan check finding (R159). -/
inductive FindingClass where
  | a
  | b
  | c
  deriving DecidableEq, Repr

/-- A finding of the plan check (R159): its class, code and subject port or the subject's absence. -/
structure Finding where
  cls : FindingClass
  code : Nat
  subject : Option PortId
  deriving DecidableEq, Repr

/-! ## Notices (sections 12.3, 12.8) -/

/-- The seven kinds of notice (R174). -/
inductive NoticeKind where
  | allotment
  | contact
  | alarm
  | poleOrder
  | auxOrders
  | event
  | mode
  deriving DecidableEq, Repr

/-- The order a POLE_ORDER carries (R28, R29). -/
inductive PoleOrder where
  | lower
  | raise
  deriving DecidableEq, Repr

/-- One line of an ALARM notice (R48). -/
structure AlarmLine where
  number : BitVec 16
  key : AlarmKey
  state : AlarmState
  repeats : Nat
  deriving DecidableEq, Repr

/-- A notice with its content (R30, R48, R83, R136, R152, R157, R175). The mask of an EVENT notice has bit k-1 set for
every kind k the waiting entry has taken in. -/
inductive Notice where
  | allotment (record : Record)
  | contact (state : ContactState) (poles : PerPole PoleState) (classes : PerPole (Option ConditionClass))
  | alarm (entries : List AlarmLine)
  | poleOrder (order : PoleOrder)
  | auxOrders (orders : Vector Bool 12)
  | event (mask : BitVec 16) (event : Event) (actionTaken : Bool)
  | mode (new : Mode) (left : Option Mode) (cause : ModeCause)
  deriving DecidableEq, Repr

/-! ## Replies (sections 12.2 and the read rules) -/

/-- The reply codes (R173). -/
inductive ReplyCode where
  | ok
  | clamped
  | already
  | deferred
  | replaced
  | roleRefused
  | modeRefused
  | busy
  | noSuch
  | interlock
  | format
  | unknown
  | planInvalid
  | abortedAt
  deriving DecidableEq, Repr

/-- READ_ALLOTMENT's content (R94, R110, R121). -/
structure AllotmentReport where
  record : Record
  frame : BitVec 32
  period : Nat
  staged : Option Nat
  n : Nat
  reclose : Timer
  sag : SagReference
  cutMark : Bool
  batteryAvailable : Bool
  boost : Bool
  charge : Bool
  overvoltRead : Bool
  demand : Option DemandRecord
  inhibit : Option InhibitSource
  overdraw : Nat
  warn : Bool
  persist : Bool
  afterCut : Bool
  deriving DecidableEq, Repr

/-- What READ_CONTACT reports of a monitor (R34). -/
structure MonitorReport where
  state : MonitorState
  detected : Bool
  filter : Nat
  cls : Option ConditionClass
  deriving DecidableEq, Repr

/-- READ_CONTACT's content (R34). -/
structure ContactReport where
  contact : ContactState
  gapTimer : Timer
  monitors : PerMonitor MonitorReport
  poles : PerPole PoleRecord
  loweringTimer : Timer
  deriving DecidableEq, Repr

/-- What READ_AUX shows of each present record: its state and, where that is SHED, its want and off-inhibit timer (R147;
log 33). -/
structure AuxStateReport where
  state : AuxState
  shed : Option (Bool × Timer)
  deriving DecidableEq, Repr

/-- READ_AUX's content (R138, R147); the record is absent from the reply for a slot above 11, and otherwise absent or
present as the slot's record is. -/
structure AuxReport where
  record : Option (Option AuxRecord)
  states : Vector (Option AuxStateReport) 12
  queue : List Slot
  starting : Option Slot
  stall : Timer
  totals : DemandTotals
  orders : Vector Bool 12
  startWaitMax : Nat
  shortfallCount : Nat
  shedFrames : Nat
  essentialShort : Bool
  deriving DecidableEq, Repr

/-- READ_SECTION's content (R66). -/
structure SectionReport where
  count : Nat
  current : Option Nat
  limits : Limits
  expectation : Option Expectation
  settings : SectionSettings
  entry : Option SectionEntry
  deriving DecidableEq, Repr

/-- READ_MEASURE's content (R12). -/
structure MeasureReport where
  period : Nat
  latest : Option SampleSet
  faults : Vector Bool 8
  railCounts : Vector Nat 8
  calib : Vector Calibration 8
  deriving DecidableEq, Repr

/-- The four error counts of a port (R178). -/
structure PortCounts where
  line : Nat
  check : Nat
  timeout : Nat
  overrun : Nat
  deriving DecidableEq, Repr

/-- PORT_STATUS's content (R178). -/
structure PortReport where
  inForce : PortSettings
  written : PortSettings
  counts : PortCounts
  slotOccupied : Bool
  waiting : List NoticeKind
  deriving DecidableEq, Repr

/-- CHECK's content (R160). -/
structure CheckReport where
  countA : Nat
  countB : Nat
  countC : Nat
  listed : List Finding
  deriving DecidableEq, Repr

/-- The content of a reply after its code: what the rule answering the request says the reply carries. -/
inductive ReplyContent where
  | none
  | allotment (r : AllotmentReport)
  | contact (r : ContactReport)
  | alarms (count : Nat) (found : Option (Bool × AlarmEntry))
  | history (count : Nat) (policy : HistoryPolicy) (full : Bool) (entry : Option HistoryEntry)
  | faults (mode : Mode) (latches : Vector Latch 16) (entry : Option (FaultEntry × RouteEntry))
  | aux (r : AuxReport)
  | sections (r : SectionReport)
  | measure (r : MeasureReport)
  | item (value : Nat) (inForce : Option Nat)
  | portStatus (r : PortReport)
  | poll (notice : Option Notice) (count : Nat)
  | sectionsWritten (count : Nat) (fault : Option SectionFault)
  | findings (r : CheckReport)
  deriving DecidableEq, Repr

/-- A reply: the request's kind byte and tag, the code and the content (R173). -/
structure Reply where
  kind : Byte
  tag : Byte
  code : ReplyCode
  content : ReplyContent
  deriving DecidableEq, Repr

/-! ## Link ports (chapter 12) -/

/-- A port's receiver: hunting for a sync byte, or in a frame with the length byte once taken, the body bytes so far
and the milliseconds left of the gap timer (R171). -/
inductive Receiver where
  | hunting
  | inFrame (length : Option Nat) (body : List Byte) (gap : Nat)
  deriving DecidableEq, Repr

/-- The reply in a reply slot, its number of parts and how many of them have been sent (R173). -/
structure ReplySlot where
  reply : Reply
  parts : Nat
  sent : Nat
  deriving DecidableEq, Repr

/-- What a port's transmitter is sending (R176): the reply part that is next in the slot, or a notice. -/
inductive Sending where
  | replyPart
  | notice (n : Notice)
  deriving DecidableEq, Repr

/-- A link port (R170 to R179). -/
structure Port where
  inForce : PortSettings
  written : PortSettings
  receiver : Receiver
  slot : Option ReplySlot
  queue : List Notice
  counts : PortCounts
  tx : Option Sending
  deriving DecidableEq, Repr

end Sys2Proof.Machine
end

