-- ==== Sys2Proof/Config.lean ====
section
/-! DEFINITION. What the manual leaves open and the part goes on with: free values, which no proof can evaluate. -/
namespace Sys2Proof

/-- The mean of one quantity (0 VL, 1 IL, 2 VB, 3 IB) over a frame in which no sample set was counted: R72 divides by the
sweep count n and R69 says that n is at least 1 at every expiry, so no rule states a result for n = 0. A FREE value, by
quantity and sum (log 7). -/
opaque Config.emptyFrameMean (quantity : Fin 4) (sum : Int) : Int

/-- The bytes of a reply's content: the manual gives it by its fields and lays out no byte of it (spec/00 section 3). A
FREE value, by content (logs 6, 26). -/
opaque Config.contentBytes (content : Machine.ReplyContent) : List Byte

/-- How many parts a reply is sent in whose content does not fit one frame: R173 cuts it into consecutive frames and does
not say where. A FREE value, by content (log 6), read between the fewest frames that hold it and the 15 that the part
byte can count. -/
opaque Config.replyParts (content : Machine.ReplyContent) : Nat

/-- How many bytes of a reply's content one of its frames carries, by content and by the number of parts that follow: R173
cuts a long content into consecutive frames and does not say where. A FREE value (log 6), read between what the parts that
follow cannot hold and what a frame holds. -/
opaque Config.partLength (content : Machine.ReplyContent) (following : Nat) : Nat

/-- The payload bytes of a notice: the manual lays out those of ALLOTMENT and gives the other notices by their fields
(spec/00 section 3). A FREE value, by notice (log 26). -/
opaque Config.noticePayload (notice : Machine.Notice) : List Byte

/-- The bytes of an image's contents, the checksum left out: R162 gives them by their fields and lays out no byte. A FREE
value, by image (log 10). -/
opaque Config.imageBytes (image : Machine.Image) : List Byte

end Sys2Proof
end

