-- ==== Sys2Proof/Machine/Imaging.lean ====
section
/-! DEFINITION. The image's checksum and the reading of erased bytes (R162). Where each field stands in the contents is
left open by the manual (log 10). -/
namespace Sys2Proof.Machine

/-- What an erased byte of the non-volatile memory reads as (R162). -/
def erasedByte : Byte := 0xFF

/-- The checksum of some contents: the sum of their bytes, modulo 65536 (R162). -/
def checksumOf (contents : List Byte) : BitVec 16 := contents.foldl (fun sum b => sum + b.setWidth 16) 0

/-- The checksum of an image: that of the bytes of its contents (R162). -/
def Image.checksum (g : Image) : BitVec 16 := checksumOf (Config.imageBytes g)

/-- Every byte of the image reads as erased, the two of its stored checksum included (R162). -/
def Image.readsErased (g : Image) (stored : BitVec 16) : Bool :=
  (Config.imageBytes g).all (· == erasedByte) && stored == erasedByte ++ erasedByte

end Sys2Proof.Machine
end

