-- ==== Sys2Proof/Machine/Characters.lean ====
section
/-! DEFINITION. The characters of the line (R170): start bit, eight data bits, the parity bit where there is one, and the
stop bit, at the levels that the port's polarity gives; and what a receiver reads from them (R171). -/
namespace Sys2Proof.Machine

/-- The data bits of a byte, least significant first (R170). -/
def dataBits (b : Byte) : List Bool := (List.range 8).map b.getLsbD

/-- Whether an odd number of some bits are 1. -/
def oddOnes (bits : List Bool) : Bool := bits.foldl xor false

/-- The parity bit after some data bits, where parity is not none: with it the number of ones is even, or odd (R170). -/
def Parity.bitFor : Parity → List Bool → Option Bool
  | .none, _ => Option.none
  | .even, bits => some (oddOnes bits)
  | .odd, bits => some (!oddOnes bits)

/-- The level on the line of a bit: inverted polarity inverts every level (R170). -/
def Polarity.level : Polarity → Bool → Bool
  | .normal, b => b
  | .inverted, b => !b

/-- The bits of a character: one start bit, 8 data bits, the parity bit, 1 stop bit (R170). That the start bit is 0 and the
stop bit 1 is the convention of asynchronous serial lines, which the manual does not state (PRESUMED, log 34, unsafe). -/
def Parity.character (parity : Parity) (b : Byte) : List Bool :=
  false :: dataBits b ++ (parity.bitFor (dataBits b)).toList ++ [true]

/-- The levels of a byte's character on RX or TX (R170). -/
def characterLevels (s : PortSettings) (b : Byte) : List Bool := (s.parity.character b).map s.polarity.level

/-- The bits of one character at a port's parity: 11 with parity, 10 without (R170). -/
def Parity.characterBits : Parity → Nat
  | .none => 10
  | _ => 11

/-- What a receiver reads from the levels of one character: the byte, and whether it has a parity or a framing error, a
framing error being a stop bit that is not 1 (R171; log 34); nothing from levels that are no character. -/
def readCharacter (s : PortSettings) (levels : List Bool) : Option (Byte × Bool) :=
  match levels.map s.polarity.level with
  | false :: d0 :: d1 :: d2 :: d3 :: d4 :: d5 :: d6 :: d7 :: rest =>
    let data := [d0, d1, d2, d3, d4, d5, d6, d7]
    let byte := BitVec.ofBoolListLE data
    match s.parity, rest with
    | .none, [stop] => some (byte, !stop)
    | .even, [parity, stop] => some (byte, parity != oddOnes data || !stop)
    | .odd, [parity, stop] => some (byte, parity == oddOnes data || !stop)
    | _, _ => none
  | _ => none

end Sys2Proof.Machine
end

