-- ==== Sys2Proof/Machine/Blocks.lean ====
section
/-! DEFINITION. The blocks of the KG240 (spec/00 section 2.1), each with the state it owns. -/
namespace Sys2Proof.Machine

/-- The measurement unit (R2, R6, R7, R13). Sweep periods are counts of 0.5 ms steps. -/
structure Measurement where
  /-- Calibration records, by channel (R2). -/
  calib : Vector Calibration 8
  /-- Sweep period in force (R5). -/
  period : Nat
  /-- Staged sweep period (R6). -/
  staged : Option Nat
  /-- The sweep in flight, with the period it began with (R5); none before start-up has begun the first. -/
  inFlight : Option Nat
  /-- The unit's sweep number (R7). -/
  number : BitVec 16
  /-- The latest sample set (R7). -/
  latest : Option SampleSet
  /-- Held value, held at-limit flag, fault flag and rail count, by channel (section 1.4). -/
  channels : Vector ChannelState 8
  deriving DecidableEq, Repr

/-- The contact monitor (chapter 2). -/
structure ContactUnit where
  settings : ContactSettings
  monitors : PerMonitor Monitor
  poles : PerPole PoleRecord
  /-- The vehicle contact state (R30). -/
  contact : ContactState
  /-- The gap timer: stopped, running or expired (R31). -/
  gapTimer : Timer
  /-- The lowering timer: stopped or running (R28). -/
  loweringTimer : Timer
  /-- The MODEL's own: sweep completions since the reset, counted to 8, for "the eighth sweep completion after reset"
  of R24. -/
  settleSweeps : Nat
  deriving DecidableEq, Repr

/-- The alarm unit (chapter 3). The raise interlock is a condition on the list (R46) and no field. -/
structure AlarmUnit where
  active : List AlarmEntry
  counter : BitVec 16
  history : List HistoryEntry
  historyFull : Bool
  policy : HistoryPolicy
  deriving DecidableEq, Repr

/-- The section unit (chapter 4). -/
structure SectionUnit where
  table : List SectionEntry
  current : Option Nat
  expectation : Option Expectation
  settings : SectionSettings
  deriving DecidableEq, Repr

/-- The allotment unit (chapters 5 to 7). -/
structure AllotmentUnit where
  /-- Settings of section 5.6; `line.tF` is the frame period in force. -/
  line : LineSettings
  battery : BatterySettings
  demandSettings : DemandSettings
  /-- The staged frame period (R70). -/
  stagedTf : Option Nat
  frameTimer : Timer
  frame : BitVec 32
  acc : Accumulators
  demand : Option DemandRecord
  /-- Traction inhibit: set with its source, or clear (R116). -/
  inhibit : Option InhibitSource
  reclose : Timer
  /-- The allotment in force (R85). -/
  record : Record
  overdraw : Nat
  warn : Bool
  persist : Bool
  afterCut : Bool
  cutMark : Bool
  sag : SagReference
  /-- The battery available flag: AVAILABLE or ISOLATED (R96). -/
  batteryAvailable : Bool
  /-- The OVERVOLT output as last read at a frame expiry (R110). -/
  overvoltRead : Bool
  deriving DecidableEq, Repr

/-- The auxiliary sequencer (chapters 8 and 9). The demand totals (R79) and the AUX_ORDERS vector (R136) are functions
of the table and no fields. -/
structure Sequencer where
  settings : AuxSettings
  table : Vector (Option AuxRecord) 12
  queue : List Slot
  /-- The starting slot: free or the record in it (R134). -/
  starting : Option Slot
  stall : Timer
  shortfallCount : Nat
  essentialShort : Bool
  deriving DecidableEq, Repr

/-- The event router (chapter 10). -/
structure Router where
  routing : Vector RouteEntry 16
  faults : Vector FaultEntry 16
  mode : Mode
  deriving DecidableEq, Repr

/-- The configuration store (chapter 11). -/
structure Store where
  nv : NvMemory
  imageState : ImageState
  save : Option SaveInFlight
  resetCause : ResetCause
  autoRun : Bool
  deriving DecidableEq, Repr

/-- The reset causes at work (R165): the supply's and RESETN's holds on the part, the 10 ms wait, the cause taken last,
and the retention flag. -/
structure Power where
  supplyHold : Bool
  pinHold : Bool
  stableWait : Timer
  lastCause : ResetCause
  retention : Bool
  deriving DecidableEq, Repr

end Sys2Proof.Machine
end

