-- ==== Sys2Proof/Machine/Arith.lean ====
section
/-! DEFINITION. The plain arithmetic of the rules: saturating counts, nearer-limit clamping, the 1024ths of the factors,
timers, and access to one of several like things. -/
namespace Sys2Proof.Machine

/-- A count increased by one, stopping at `cap`. -/
def satSucc (cap n : Nat) : Nat := min (n + 1) cap

/-- The nearer limit of `lo..hi`, or the value itself within it (R180). -/
def clampNat (lo hi n : Nat) : Nat := max lo (min n hi)

/-- As `clampNat`, for signed values (R4). -/
def clampInt (lo hi n : Int) : Int := max lo (min n hi)

/-- Whether a value lies within `lo..hi`, both limits included. -/
def inRange (lo hi n : Nat) : Bool := decide (lo ≤ n) && decide (n ≤ hi)

/-- A rising factor: 1024 at or above `full`, 0 at or below `empty`, tested in that order, and between them the fraction
of 1024 (R75, R77). -/
def risingFactor (empty full : Nat) (x : Int) : Nat :=
  if x ≥ full then 1024
  else if x ≤ empty then 0
  else (1024 * (x - empty) / ((full : Int) - empty)).toNat

/-- A falling factor: 1024 at or below `full`, 0 at or above `empty`, tested in that order, and between them the fraction
of 1024 (R102, R104). -/
def fallingFactor (full empty : Nat) (x : Int) : Nat :=
  if x ≤ full then 1024
  else if x ≥ empty then 0
  else (1024 * ((empty : Int) - x) / ((empty : Int) - full)).toNat

/-- A current scaled by a factor read as 1024ths, rounded down. -/
def scaled (current factor : Nat) : Nat := current * factor / 1024

/-- The timer is running. -/
def Timer.isRunning : Timer → Bool
  | .running _ => true
  | _ => false

/-- One millisecond passes: a running timer's remaining time falls by one and rests at 0 until its expiry is taken. -/
def Timer.tick : Timer → Timer
  | .running n => .running (n - 1)
  | t => t

/-- The value of one monitor. -/
def PerMonitor.get {α : Type} (v : PerMonitor α) : MonitorId → α
  | .loss => v.loss
  | .anglePos => v.anglePos
  | .angleNeg => v.angleNeg
  | .overvolt => v.overvolt

/-- Replace the value of one monitor. -/
def PerMonitor.set {α : Type} (v : PerMonitor α) (m : MonitorId) (a : α) : PerMonitor α :=
  match m with
  | .loss => { v with loss := a }
  | .anglePos => { v with anglePos := a }
  | .angleNeg => { v with angleNeg := a }
  | .overvolt => { v with overvolt := a }

/-- The same function on each monitor's value. -/
def PerMonitor.map {α β : Type} (f : α → β) (v : PerMonitor α) : PerMonitor β :=
  { loss := f v.loss, anglePos := f v.anglePos, angleNeg := f v.angleNeg, overvolt := f v.overvolt }

/-- The value of one pole. -/
def PerPole.get {α : Type} (v : PerPole α) : Pole → α
  | .pos => v.pos
  | .neg => v.neg

/-- Replace the value of one pole. -/
def PerPole.set {α : Type} (v : PerPole α) (p : Pole) (a : α) : PerPole α :=
  match p with
  | .pos => { v with pos := a }
  | .neg => { v with neg := a }

/-- The same function on each pole's value. -/
def PerPole.map {α β : Type} (f : α → β) (v : PerPole α) : PerPole β := { pos := f v.pos, neg := f v.neg }

/-- A condition on either pole. -/
def PerPole.any {α : Type} (f : α → Bool) (v : PerPole α) : Bool := f v.pos || f v.neg

/-- A condition on both poles. -/
def PerPole.all {α : Type} (f : α → Bool) (v : PerPole α) : Bool := f v.pos && f v.neg

/-- Number of an event kind, less one: its place in the routing and fault tables (R149). -/
def EventKind.index : EventKind → Fin 16
  | .poleDrop => 0
  | .raiseMiss => 1
  | .lineLost => 2
  | .lowerStuck => 3
  | .gapUnexpected => 4
  | .sectionNoGap => 5
  | .sag => 6
  | .overvolt => 7
  | .overdraw => 8
  | .overdrawPersist => 9
  | .demandSilent => 10
  | .essentialShort => 11
  | .startStalled => 12
  | .measureFault => 13
  | .configCorrupt => 14
  | .userFault => 15

/-- The sixteen kinds in the order of their numbers (R149). -/
def EventKind.list : List EventKind :=
  [.poleDrop, .raiseMiss, .lineLost, .lowerStuck, .gapUnexpected, .sectionNoGap, .sag, .overvolt, .overdraw,
   .overdrawPersist, .demandSilent, .essentialShort, .startStalled, .measureFault, .configCorrupt, .userFault]

/-- The kind of a number 1..16 (R149). -/
def EventKind.ofNumber (n : Nat) : Option EventKind := if n = 0 then none else EventKind.list[n - 1]?

/-- The routed actions (R149). -/
inductive Action where
  | lowerPoles
  | tractionInhibit (source : InhibitSource)
  deriving DecidableEq, Repr

/-- The routable action of a kind, if it has one (R149, R117). -/
def EventKind.action : EventKind → Option Action
  | .poleDrop | .raiseMiss | .lineLost => some .lowerPoles
  | .overdraw => some (.tractionInhibit .overdraw)
  | .demandSilent => some (.tractionInhibit .demandSilent)
  | _ => none

/-- The mask of the ports that satisfy a condition, bit i for Pi. -/
def portMask (f : PortId → Bool) : BitVec 4 :=
  BitVec.ofNat 4 ((f 0).toNat + 2 * (f 1).toNat + 4 * (f 2).toNat + 8 * (f 3).toNat)

end Sys2Proof.Machine
end

