-- ==== Sys2Proof/Machine/Defaults.lean ====
section
/-! DEFINITION. The default settings, which a blank or corrupt image gives, and the state each block is put into at every
reset from the image or the defaults (R13, R35, R54, R68, R95, R111, R121, R139, R148, R161, R179). -/
namespace Sys2Proof.Machine

/-- Default calibration (R2). -/
def defaultCalibration : Vector Calibration 8 :=
  #v[⟨0, 1000⟩, ⟨2048, 1600⟩, ⟨2048, 1200⟩, ⟨0, 900⟩, ⟨2048, 1200⟩, ⟨0, 900⟩, ⟨0, 900⟩, ⟨2048, 800⟩]

/-- Default settings of the contact monitor (sections 2.1 and 2.6). The decimation of a DIRECT monitor is not used; the
manual gives it no default, and the model takes 1 (DESIGN CHOICE, log 25: unsafe where READ_ITEM 37 or 38 is read). -/
def ContactSettings.defaults : ContactSettings :=
  { vLoss := 250, hLoss := 30, vOv := 950, hOv := 20, latLimit := 350, elevMin := 150, elevMax := 700, hAng := 20,
    monitors :=
      { loss := ⟨true, .filtered, 1⟩, anglePos := ⟨true, .direct, 1⟩, angleNeg := ⟨true, .direct, 1⟩,
        overvolt := ⟨true, .filtered, 2⟩ },
    stowLevel := 30, seatTime := 200, gapMax := 1200, lowerTimeMax := 6000 }

/-- Default settings of the section unit (section 4.7). -/
def SectionSettings.defaults : SectionSettings := { iFeedDefault := 500, iRgmaxDefault := 300, expectWindow := 3000 }

/-- Default settings of section 5.6. -/
def LineSettings.defaults : LineSettings := { tF := 10, vFloor := 400, vKnee := 600, sUp := 40, rCom := 0, tRc := 60 }

/-- Default settings of section 6.7. -/
def BatterySettings.defaults : BatterySettings :=
  { vBatMin := 500, vBatLow := 560, iBatMax := 250, iBatChg := 120, vChgTaper := 700, vBatFull := 740, vOvk := 850,
    vMax := 950, boost := true, charge := true }

/-- Default settings of section 7.5. -/
def DemandSettings.defaults : DemandSettings :=
  { holdFrames := 5, staleDecay := 20, cutoffFrames := 50, tol := 30, odWarn := 3, odStop := 20 }

/-- Default settings of sections 8.8 and 9.6. -/
def AuxSettings.defaults : AuxSettings := { startWaitMax := 10000, shedFrames := 3 }

/-- Default line settings with a role (R170). -/
def PortSettings.defaultsWith (role : Role) : PortSettings :=
  { rate := .b115200, parity := .even, polarity := .normal, duplex := .full, role := role }

/-- Default line settings and roles of P0 to P3 (R170). -/
def defaultPorts : Vector PortSettings 4 :=
  #v[.defaultsWith .cab, .defaultsWith .traction, .defaultsWith .auxiliary, .defaultsWith .roof]

/-- The default routing entry of a kind, from the roles in force (R150). -/
def defaultRoute (roles : PortId → Role) (kind : EventKind) : RouteEntry :=
  match kind with
  | .poleDrop | .raiseMiss => ⟨portMask fun p => roles p = .cab || roles p = .roof, true⟩
  | .overdraw => ⟨portMask fun p => roles p = .cab || roles p = .traction, true⟩
  | .demandSilent => ⟨portMask fun p => roles p = .cab, true⟩
  | _ => ⟨portMask fun p => roles p = .cab, false⟩

/-- The default routing table (R150). -/
def defaultRouting (roles : PortId → Role) : Vector RouteEntry 16 :=
  Vector.ofFn fun i => defaultRoute roles (EventKind.list[i]'(by simp [EventKind.list]))

/-- Every setting at its default: what a blank or corrupt image gives (R162). -/
def Image.defaults : Image :=
  { ports := defaultPorts
    calib := defaultCalibration
    sweepPeriod := 2
    contact := .defaults
    sections := .defaults
    sectionTable := []
    line := .defaults
    battery := .defaults
    demand := .defaults
    aux := .defaults
    auxTable := Vector.replicate 12 none
    routing := defaultRouting fun p => defaultPorts[p].role
    policy := .latest
    autoRun := false }

/-! ## The blocks after a reset -/

/-- The measurement unit after any reset (R13), before its first sweep. -/
def Measurement.afterReset (img : Image) : Measurement :=
  { calib := img.calib
    period := img.sweepPeriod
    staged := none
    inFlight := none
    number := 0
    latest := none
    channels := Vector.replicate 8 { held := 0, heldAtLimit := false, fault := false, railCount := 0 } }

/-- A monitor after any reset, by its enable setting (R19, R35). -/
def Monitor.afterReset (s : MonitorSetting) : Monitor :=
  { state := if s.enable then .settling else .disabled
    settling := 0, decimation := 0, filter := 0, detected := false, cls := none }

/-- A pole record after any reset (R24). -/
def PoleRecord.afterReset : PoleRecord := { state := .unknown, stowCount := 0, seat := .stopped, lastClass := none }

/-- The contact monitor after any reset (R35). -/
def ContactUnit.afterReset (img : Image) : ContactUnit :=
  { settings := img.contact
    monitors := img.contact.monitors.map Monitor.afterReset
    poles := { pos := .afterReset, neg := .afterReset }
    contact := .offWire
    gapTimer := .stopped
    loweringTimer := .stopped
    settleSweeps := 0 }

/-- The section unit after any reset (R68). -/
def SectionUnit.afterReset (img : Image) : SectionUnit :=
  { table := img.sectionTable, current := none, expectation := none, settings := img.sections }

/-- The reset record (R95), carrying the mode start-up enters. -/
def Record.afterReset (mode : Mode) : Record :=
  { frame := 0, mode := mode, lineAvailable := false
    means := { vL := 0, iL := 0, vB := 0, iB := 0 }
    factors := { kV := 0, kB := 0, kOv := 0, kC := 0 }
    bLine := 0, bBat := 0, aEssLine := 0, aCprot := 0, aCres := 0, aCfree := 0, aCh := 0, aTrLine := 0, aRgLine := 0
    aEssBat := 0, aTrBat := 0, aRgBat := 0, aRgAux := 0, aRg := 0, hLine := 0, hBat := 0, shortfall := 0
    flags := { cut := true, sag := false, inhibit := false, stale := false } }

/-- Empty frame accumulators (R71, R95). -/
def Accumulators.empty : Accumulators := { vL := 0, iL := 0, vB := 0, iB := 0, n := 0 }

/-- The allotment unit after any reset (R95, R111, R121), its frame timer not yet started. -/
def AllotmentUnit.afterReset (img : Image) (mode : Mode) : AllotmentUnit :=
  { line := img.line
    battery := img.battery
    demandSettings := img.demand
    stagedTf := none
    frameTimer := .stopped
    frame := 0
    acc := .empty
    demand := none
    inhibit := none
    reclose := .stopped
    record := .afterReset mode
    overdraw := 0
    warn := false
    persist := false
    afterCut := false
    cutMark := false
    sag := .full
    batteryAvailable := false
    overvoltRead := false }

/-- A present auxiliary record after any reset: COOLDOWN for its minimum off-time, or IDLE at once when that is 0
(R139, R132). -/
def AuxRecord.afterReset (c : AuxConfig) : AuxRecord :=
  { config := c
    state := if c.tOffMin = 0 then .idle else .cooldown
    want := false
    inrush := .stopped
    onTimer := .stopped
    runTimer := .stopped
    offInhibit := if c.tOffMin = 0 then .stopped else .running (c.tOffMin * 1000)
    stamp := none
    stalled := false
    pendingPart := none }

/-- The auxiliary sequencer after any reset (R139, R148). -/
def Sequencer.afterReset (img : Image) : Sequencer :=
  { settings := img.aux
    table := Vector.ofFn fun i => (img.auxTable[i]).map AuxRecord.afterReset
    queue := []
    starting := none
    stall := .stopped
    shortfallCount := 0
    essentialShort := false }

/-- A fault-table entry after POWER_ON (R161). -/
def FaultEntry.cleared : FaultEntry := { latch := .none, count := 0, lastFrame := 0, lastDetail := .absent }

/-- Four error counts of zero (R179). -/
def PortCounts.zero : PortCounts := { line := 0, check := 0, timeout := 0, overrun := 0 }

/-- A port after any reset (R179). -/
def Port.afterReset (s : PortSettings) : Port :=
  { inForce := s, written := s, receiver := .hunting, slot := none, queue := [], counts := .zero, tx := none }

end Sys2Proof.Machine
end

