-- ==== Sys2Proof/Machine/State.lean ====
section
/-! DEFINITION. The state of the KG240: its nine blocks, the reset causes at work on it, and the queue of the commands
that wait; the state right after a power-on reset; and the reasons a command can stop (there is none). -/
namespace Sys2Proof.Machine

/-- Everything the KG240 holds, block by block (spec/00 section 2.1), and the commands waiting to be taken. -/
structure State where
  meas : Measurement
  contact : ContactUnit
  alarm : AlarmUnit
  sections : SectionUnit
  allot : AllotmentUnit
  aux : Sequencer
  router : Router
  store : Store
  ports : Vector Port 4
  power : Power
  pending : List Instr
  deriving DecidableEq, Repr

/-- Reasons a step can fault. The manual gives every command an effect, so there is none (safe: no behaviour is cut
short). -/
inductive Fault : Type
  deriving DecidableEq, Repr

/-- Reasons a command can be refused. -/
inductive Refusal where
  /-- Raised by an arm of `exec` whose command has no meaning yet; safe, as nothing is claimed of that command. No arm
  of this model raises it. -/
  | notModelled (mnemonic : String)
  deriving DecidableEq, Repr

/-- The state right after a POWER_ON reset of a part whose image is blank: start-up has run (R167, R168), the first mode
is SETUP, and each port's transmitter has begun the MODE notice with cause START_UP; the AUX_ORDERS notice of R139 waits
behind it on P2, the AUXILIARY port. That the image is blank is the model's choice (DESIGN CHOICE, log 1, unsafe). -/
def State.reset : State :=
  { meas := { Measurement.afterReset .defaults with inFlight := some 2 }
    contact := .afterReset .defaults
    alarm := { active := [], counter := 0, history := [], historyFull := false, policy := .latest }
    sections := .afterReset .defaults
    allot := { AllotmentUnit.afterReset .defaults .setup with frameTimer := .running 10 }
    aux := .afterReset .defaults
    router :=
      { routing := Image.defaults.routing, faults := Vector.replicate 16 .cleared, mode := .setup }
    store := { nv := .erased, imageState := .blank, save := none, resetCause := .powerOn, autoRun := false }
    ports := #v[
      { Port.afterReset (.defaultsWith .cab) with tx := some (.notice (.mode .setup none .startUp)) },
      { Port.afterReset (.defaultsWith .traction) with tx := some (.notice (.mode .setup none .startUp)) },
      { Port.afterReset (.defaultsWith .auxiliary) with
        tx := some (.notice (.mode .setup none .startUp)), queue := [.auxOrders (Vector.replicate 12 false)] },
      { Port.afterReset (.defaultsWith .roof) with tx := some (.notice (.mode .setup none .startUp)) }]
    power :=
      { supplyHold := false, pinHold := false, stableWait := .stopped, lastCause := .powerOn, retention := true }
    pending := [] }

end Sys2Proof.Machine
end

