-- ==== Sys2Proof/Machine/Ops.lean ====
section
/-! DEFINITION. The operations every chapter shares: the notice queues and their receivers (R174, R175, R47), the reply
slot and the taking of a complete frame (R172, R173), the transmitters' choice (R176, R177), and the passing of time. -/
namespace Sys2Proof.Machine

/-! ## Notices and their queues -/

/-- The kind of a notice (R174). -/
def Notice.kind : Notice → NoticeKind
  | .allotment .. => .allotment
  | .contact .. => .contact
  | .alarm .. => .alarm
  | .poleOrder .. => .poleOrder
  | .auxOrders .. => .auxOrders
  | .event .. => .event
  | .mode .. => .mode

/-- A waiting entry takes the content of a newer notice of its kind; an EVENT entry adds the new kind to its mask
(R175). -/
def Notice.takeIn (waiting newer : Notice) : Notice :=
  match waiting, newer with
  | .event m _ _, .event k e acted => .event (m ||| k) e acted
  | _, n => n

/-- A notice joins a queue at its end, or updates the waiting entry of its kind in place (R175). -/
def enqueue (n : Notice) : List Notice → List Notice
  | [] => [n]
  | m :: rest => if m.kind = n.kind then m.takeIn n :: rest else m :: enqueue n rest

/-- The kinds of notice that a role's port receives by its role; EVENT goes by the notify mask instead (R174). -/
def Role.receives (role : Role) : NoticeKind → Bool
  | .allotment => role != .roof
  | .contact | .mode => true
  | .alarm => role == .cab || role == .roof || role == .monitor
  | .poleOrder => role == .roof
  | .auxOrders => role == .auxiliary
  | .event => false

/-- The role in force of a port (R170). -/
def State.role (s : State) (p : PortId) : Role := s.ports[p].inForce.role

/-- Change every port. -/
def State.mapPorts (s : State) (f : PortId → Port → Port) : State :=
  { s with ports := Vector.ofFn fun p => f p s.ports[p] }

/-- Change one port. -/
def State.setPort (s : State) (p : PortId) (port : Port) : State := { s with ports := s.ports.set p port }

/-- Queue a notice to the ports a condition names. -/
def State.queueTo (s : State) (dest : PortId → Bool) (n : Notice) : State :=
  s.mapPorts fun p port => if dest p then { port with queue := enqueue n port.queue } else port

/-- Queue a notice to every port whose role receives its kind (R174). -/
def State.notify (s : State) (n : Notice) : State := s.queueTo (fun p => (s.role p).receives n.kind) n

/-- Withdraw the waiting POLE_ORDER(RAISE) of every ROOF-role port (R47). -/
def State.withdrawRaise (s : State) : State :=
  s.mapPorts fun _ port =>
    if port.inForce.role = .roof then { port with queue := port.queue.filter (· != .poleOrder .raise) } else port

/-! ## Transmission -/

/-- The bits a frame of `n` bytes takes on a port (R176). -/
def frameBits (parity : Parity) (n : Nat) : Nat := n * parity.characterBits

/-- The idle transmitter of a port begins what waits: the reply in the slot, or on a FULL-duplex port the oldest notice,
which leaves the queue; on a HALF-duplex port it sends replies alone (R176, R177). -/
def Port.beginWaiting (port : Port) : Port :=
  match port.tx with
  | some _ => port
  | none =>
    match port.slot with
    | some _ => { port with tx := some .replyPart }
    | none =>
      match port.inForce.duplex, port.queue with
      | .full, n :: rest => { port with tx := some (.notice n), queue := rest }
      | _, _ => port

/-- Every transmitter makes its choice, once an action has been taken whole (R176). -/
def State.beginWaiting (s : State) : State := s.mapPorts fun _ port => port.beginWaiting

/-- The drive enable output DE of a port: asserted on a HALF-duplex port for the duration of each reply frame (R177). -/
def Port.driveEnable (port : Port) : Bool :=
  port.inForce.duplex == .half && port.tx == some .replyPart

/-- A HALF-duplex port's receiver ignores the line while the port's own transmitter is sending (R171). -/
def Port.deaf (port : Port) : Bool := port.inForce.duplex == .half && port.tx.isSome

/-! ## Taking a complete frame -/

/-- The content bytes that one frame holds: a body of 60 bytes less kind, tag, code and part byte (R171, R181). -/
def frameRoom : Nat := 56

/-- A notice of fourteen fields at most, with its kind and the count that POLL adds: the number of entries of an ALARM
notice stands beside the five fields of each (R48). -/
def Notice.isShort : Notice → Bool
  | .allotment _ => false
  | .alarm entries => entries.length ≤ 2
  | .contact .. | .poleOrder _ | .auxOrders _ | .event .. | .mode .. => true

/-- A content that fits one frame in any layout: it has at most fourteen fields, and no field of a reply needs more than
the four bytes of a frame number (log 6). -/
def ReplyContent.isShort : ReplyContent → Bool
  | .none | .item .. | .sectionsWritten .. => true
  | .alarms _ found => found.isNone
  | .history _ _ _ entry => entry.isNone
  | .poll notice _ => notice.all Notice.isShort
  | .findings r => r.listed.length ≤ 3
  | _ => false

/-- How many parts a reply is sent in (R173): one where its content fits one frame, and otherwise what the open cut makes
it, from the fewest frames that hold it up to what the part byte counts (free values, log 6). -/
def Reply.parts (r : Reply) : Nat :=
  let length := min (15 * frameRoom) (Config.contentBytes r.content).length
  if r.content.isShort || decide (length ≤ frameRoom) then 1
  else clampNat ((length + (frameRoom - 1)) / frameRoom) 15 (Config.replyParts r.content)

/-- What the owning block makes of a request: the state after, the reply code and the reply's content. -/
structure Answer where
  state : State
  code : ReplyCode
  content : ReplyContent := .none

/-- An answer that changes nothing. -/
def State.refuse (s : State) (code : ReplyCode) : Answer := { state := s, code := code }

/-- An answer of OK with the state changed to `s`. -/
def State.ok (s : State) : Answer := { state := s, code := .ok }

/-- A reply enters a port's reply slot (R173). -/
def State.enterReply (s : State) (p : PortId) (r : Reply) : State :=
  s.setPort p { s.ports[p] with slot := some { reply := r, parts := r.parts, sent := 0 } }

/-- Whether a request kind is permitted to a role (R172). -/
def Role.permits (role : Role) (kind : Byte) : Bool :=
  if kind.toNat ≤ 0x0B then true
  else if kind.toNat = 0x10 then role == .traction
  else if kind.toNat = 0x18 ∨ kind.toNat = 0x19 then role == .auxiliary
  else role == .cab

/-- The receiver of a port returns to HUNTING with its gap timer stopped (R171). -/
def State.hunt (s : State) (p : PortId) : State := s.setPort p { s.ports[p] with receiver := .hunting }

/-- A complete frame that finds the reply slot occupied is not taken (R172). -/
def State.countOverrun (s : State) (p : PortId) : State :=
  s.setPort p
    { s.ports[p] with
      counts := { s.ports[p].counts with overrun := satSucc 65535 s.ports[p].counts.overrun } }

/-- A complete frame that names no request or has a bad length is answered without reaching a block (R172). -/
def State.answerFrame (s : State) (p : PortId) (kind tag : Byte) (code : ReplyCode) : State :=
  if (s.ports[p].slot).isSome then s.countOverrun p
  else s.enterReply p { kind := kind, tag := tag, code := code, content := .none }

/-- A complete frame that carries a request is taken by the lines of R172 in their order: overrun, bad length, role, and
otherwise dispatched to the owning block, whose answer enters the reply slot. -/
def State.takeRequest (s : State) (p : PortId) (kind tag : Byte) (lengthGood : Bool) (take : State → Answer) : State :=
  if (s.ports[p].slot).isSome then s.countOverrun p
  else if !lengthGood then s.enterReply p { kind := kind, tag := tag, code := .format, content := .none }
  else if !(s.role p).permits kind then
    s.enterReply p { kind := kind, tag := tag, code := .roleRefused, content := .none }
  else
    let a := take s
    a.state.enterReply p { kind := kind, tag := tag, code := a.code, content := a.content }

/-! ## The shape of every command -/

/-- No reset is in progress (R165): the blocks act on their events and the ports receive. -/
def State.up (s : State) : Bool := !s.power.supplyHold && !s.power.pinHold

/-- An event or a frame is taken whole while no reset is in progress, and then the transmitters make their choice (R176);
during a reset nothing reaches a block (R165, R167; log 4). -/
def State.act (s : State) (f : State → State) : Host.Outcome State Fault Refusal :=
  if s.up then .next (f s).beginWaiting else .next s

/-- A complete frame at a port whose receiver hears it: the receiver returns to HUNTING and the frame is taken (R171,
R172; log 5). -/
def State.actFrame (s : State) (p : PortId) (f : State → State) : Host.Outcome State Fault Refusal :=
  s.act fun s => if s.ports[p].deaf then s else f (s.hunt p)

/-- A request's complete frame at a port (R172). -/
def State.actRequest (s : State) (p : PortId) (kind tag : Byte) (take : State → Answer) :
    Host.Outcome State Fault Refusal :=
  s.actFrame p fun s => s.takeRequest p kind tag true take

/-! ## The passing of time -/

/-- One millisecond passes on a receiver's gap timer (R171). -/
def Receiver.tick : Receiver → Receiver
  | .inFrame l b gap => .inFrame l b (gap - 1)
  | r => r

/-- One millisecond passes on an auxiliary record's timers (R123). -/
def AuxRecord.tick (r : AuxRecord) : AuxRecord :=
  { r with inrush := r.inrush.tick, onTimer := r.onTimer.tick, runTimer := r.runTimer.tick,
           offInhibit := r.offInhibit.tick }

/-- One millisecond passes: every running timer's remaining time falls by one, resting at 0 until its expiry is taken,
and a save in flight has run one millisecond longer. It is what a step does when no command waits (log 2). -/
def State.tick (s : State) : State :=
  { s with
    contact := { s.contact with
      poles := s.contact.poles.map fun r => { r with seat := r.seat.tick }
      gapTimer := s.contact.gapTimer.tick
      loweringTimer := s.contact.loweringTimer.tick }
    sections := { s.sections with
      expectation := s.sections.expectation.map fun e => { e with window := e.window.tick } }
    allot := { s.allot with frameTimer := s.allot.frameTimer.tick, reclose := s.allot.reclose.tick }
    aux := { s.aux with
      table := Vector.ofFn fun i => (s.aux.table[i]).map AuxRecord.tick
      stall := s.aux.stall.tick }
    store := { s.store with save := s.store.save.map fun v => { v with elapsed := min 250 (v.elapsed + 1) } }
    ports := Vector.ofFn fun p => { s.ports[p] with receiver := s.ports[p].receiver.tick }
    power := { s.power with stableWait := s.power.stableWait.tick } }

end Sys2Proof.Machine
end

