-- ==== Sys2Proof/Machine/Flags.lean ====
section
/-! DEFINITION. The conditions the rules read as flags: monitor outputs (R14), line available (R74), the flags of a new
record (R84), the raise interlock (R46), and the latches (R153). -/
namespace Sys2Proof.Machine

/-- A monitor's output is ASSERTED in the state ASSERTED alone (R14). -/
def Monitor.output (m : Monitor) : Bool := m.state == .asserted

/-- The angle monitor of a pole (R24). -/
def angleMonitor : Pole → MonitorId
  | .pos => .anglePos
  | .neg => .angleNeg

/-- The vehicle contact state derived from the poles, the LOSS output and the gap timer (R30). -/
def ContactUnit.derive (u : ContactUnit) : ContactState :=
  if u.poles.any fun r => r.state == .dewired then .dropped
  else if u.poles.all fun r => r.state == .onWire then
    if u.monitors.loss.output then
      if u.gapTimer = .expired then .lost else .gap
    else .contact
  else .offWire

/-- The line is available: the contact state is CONTACT and the reclose timer is not running (R74). -/
def lineAvailable (cs : ContactState) (reclose : Timer) : Bool := cs == .contact && !reclose.isRunning

/-- The flags of a record installed at a frame expiry (R84). -/
def newFlags (cs : ContactState) (reclose : Timer) (kV : Nat) (inhibit stale : Bool) : RecordFlags :=
  { cut := cs != .contact || reclose.isRunning
    sag := lineAvailable cs reclose && decide (kV < 1024)
    inhibit := inhibit
    stale := stale }

/-- An entry of a pole kind, POLE_DROP or RAISE_MISS, with its pole (R37). -/
def AlarmKey.pole : AlarmKey → Option Pole
  | .poleDrop p | .raiseMiss p => some p
  | _ => none

/-- An entry that engages the raise interlock: a pole kind in ACTIVE_UNACK or GONE_UNACK (R46). -/
def AlarmEntry.engages (e : AlarmEntry) : Bool :=
  e.key.pole.isSome && (e.state == .activeUnack || e.state == .goneUnack)

/-- The raise interlock is engaged (R46). -/
def AlarmUnit.interlock (u : AlarmUnit) : Bool := u.active.any AlarmEntry.engages

/-- The latch a class of event sets (R153). -/
def EventClass.latch : EventClass → Latch
  | .advisory => .advisory
  | .stopping => .stopping

/-- The higher of two latches: STOPPING above ADVISORY above none (R153). -/
def Latch.higher : Latch → Latch → Latch
  | .stopping, _ => .stopping
  | _, .stopping => .stopping
  | .advisory, _ => .advisory
  | _, l => l

/-- Any latch of the fault table is STOPPING (R158, R168). -/
def Router.anyStopping (r : Router) : Bool := r.faults.toList.any fun e => e.latch == .stopping

end Sys2Proof.Machine
end

