-- ==== Sys2Proof/Machine/Sequencing.lean ====
section
/-! DEFINITION. The auxiliary sequencer's own operations (chapters 8 and 9): demand totals, orders, stamps, the start
queue and its stall timer, stops, shedding and the start test. -/
namespace Sys2Proof.Machine

/-- The twelve slots in their order. -/
def slots : List Slot := List.finRange 12

/-- An auxiliary is on while its record is STARTING or RUNNING (R136). -/
def AuxRecord.isOn (r : AuxRecord) : Bool := r.state == .starting || r.state == .running

/-- The AUX_ORDERS vector (R136). -/
def Sequencer.orders (a : Sequencer) : Vector Bool 12 :=
  Vector.ofFn fun i => match a.table[i] with
    | some r => r.isOn
    | none => false

/-- What a record adds to the demand totals (R79): an inrush counts at I_in, a running record at I_run; a COMFORT record
is protected in its inrush and while its on-timer runs. -/
def AuxRecord.demand (r : AuxRecord) : DemandTotals :=
  match r.config.tier, r.state with
  | .essential, .starting => ⟨r.config.iIn, 0, 0⟩
  | .essential, .running => ⟨r.config.iRun, 0, 0⟩
  | .comfort, .starting => ⟨0, r.config.iIn, 0⟩
  | .comfort, .running => if r.onTimer.isRunning then ⟨0, r.config.iRun, 0⟩ else ⟨0, 0, r.config.iRun⟩
  | _, _ => ⟨0, 0, 0⟩

/-- The sum of two sets of demand totals. -/
def DemandTotals.add (x y : DemandTotals) : DemandTotals :=
  ⟨x.dEss + y.dEss, x.dCprot + y.dCprot, x.dCfree + y.dCfree⟩

/-- The three demand totals (R79, R137), kept current by being computed from the records. -/
def Sequencer.totals (a : Sequencer) : DemandTotals :=
  slots.foldl (fun t i => match a.table[i] with
    | some r => t.add r.demand
    | none => t) ⟨0, 0, 0⟩

/-- Put a record into its slot. -/
def Sequencer.put (a : Sequencer) (i : Slot) (r : AuxRecord) : Sequencer := { a with table := a.table.set i (some r) }

/-- The number of RUNNING records (R130). -/
def Sequencer.runningCount (a : Sequencer) : Nat :=
  slots.foldl (fun k i => match a.table[i] with
    | some r => if r.state = .running then k + 1 else k
    | none => k) 0

/-- Every record with a stamp higher than `n` takes one lower (R130). -/
def Sequencer.releaseStamp (a : Sequencer) (n : Nat) : Sequencer :=
  { a with table := Vector.ofFn fun i =>
      (a.table[i]).map fun r => { r with stamp := r.stamp.map fun m => if n < m then m - 1 else m } }

/-! ## The start queue and the stall timer -/

/-- A new queue, with the stall timer as its head calls for (R135): stopped when the queue is empty, started when a
record becomes the head, and left as it is while the head stays. -/
def Sequencer.setQueue (a : Sequencer) (q : List Slot) : Sequencer :=
  { a with
    queue := q
    stall := if q.isEmpty then .stopped
      else if q.head? = a.queue.head? then a.stall
      else .running a.settings.startWaitMax }

/-- Whether a slot's record is ESSENTIAL by its configured part in force. -/
def Sequencer.isEssential (a : Sequencer) (i : Slot) : Bool :=
  match a.table[i] with
  | some r => r.config.tier == .essential
  | none => false

/-- A record joins the queue: an ESSENTIAL one behind the last ESSENTIAL record, a COMFORT one at the end (R133). -/
def Sequencer.join (a : Sequencer) (i : Slot) : Sequencer :=
  if a.isEssential i then
    a.setQueue (a.queue.takeWhile a.isEssential ++ i :: a.queue.dropWhile a.isEssential)
  else a.setQueue (a.queue ++ [i])

/-- A record leaves the queue (R133). -/
def Sequencer.leave (a : Sequencer) (i : Slot) : Sequencer := a.setQueue (a.queue.filter (· != i))

/-! ## Entries to the off states -/

/-- Entry to IDLE, applying the pending part (R125). -/
def AuxRecord.toIdle (r : AuxRecord) (want : Bool) : AuxRecord :=
  { r with
    config := r.pendingPart.getD r.config
    pendingPart := none
    state := .idle
    want := want
    offInhibit := .stopped
    stalled := false }

/-- Entry to QUEUED from an off state. -/
def AuxRecord.toQueued (r : AuxRecord) : AuxRecord := { r with state := .queued, offInhibit := .stopped }

/-- A record leaves COOLDOWN or SHED at the end of its minimum off-time (R132). -/
def Sequencer.offExit (a : Sequencer) (i : Slot) (r : AuxRecord) : Sequencer :=
  match r.state with
  | .cooldown =>
    if r.want then (a.put i r.toQueued).join i else a.put i (r.toIdle false)
  | .shed =>
    if r.config.autoRestart && r.want then (a.put i r.toQueued).join i else a.put i (r.toIdle false)
  | _ => a

/-- A STARTING or RUNNING record stops into COOLDOWN or SHED (R128, R131, R142): its timers stop, the starting slot is
freed if it held it, its stamp is removed, and its off-inhibit timer starts; with t_off_min 0 it leaves the state at once
(R132). -/
def Sequencer.stopTo (a : Sequencer) (i : Slot) (r : AuxRecord) (target : AuxState) (want : Bool) : Sequencer :=
  let freed : Sequencer := { a with starting := if a.starting = some i then none else a.starting }
  let renumbered := match r.stamp with
    | some n => freed.releaseStamp n
    | none => freed
  let stopped : AuxRecord :=
    { r with
      state := target, want := want, inrush := .stopped, onTimer := .stopped, runTimer := .stopped, stamp := none
      offInhibit := if r.config.tOffMin = 0 then .stopped else .running (r.config.tOffMin * 1000) }
  let held := renumbered.put i stopped
  if r.config.tOffMin = 0 then held.offExit i stopped else held

/-! ## Shedding -/

/-- The stamp of a slot's record, 0 when it has none. -/
def Sequencer.stampOf (a : Sequencer) (i : Slot) : Nat :=
  match a.table[i] with
  | some r => r.stamp.getD 0
  | none => 0

/-- The slots whose record satisfies a condition, in descending order of stamp, a record without one last (R141,
R143). -/
def Sequencer.byStamp (a : Sequencer) (keep : AuxRecord → Bool) : List Slot :=
  (slots.filter fun i => match a.table[i] with
    | some r => keep r
    | none => false).insertionSort fun i j => a.stampOf j ≤ a.stampOf i

/-- Eligible for frame shedding: COMFORT, RUNNING, on-timer expired (R141). -/
def AuxRecord.eligible (r : AuxRecord) : Bool :=
  r.config.tier == .comfort && r.state == .running && r.onTimer == .expired

/-- A COMFORT record that is STARTING or RUNNING: what cut shedding takes (R143). -/
def AuxRecord.comfortOn (r : AuxRecord) : Bool := r.config.tier == .comfort && r.isOn

/-- Shed the records of some slots in turn until the I_run of those shed covers the shortfall (R141, R142). -/
def Sequencer.shedUntil (shortfall : Nat) : Nat → List Slot → Sequencer → Sequencer
  | _, [], a => a
  | sum, i :: rest, a =>
    if shortfall ≤ sum then a
    else match a.table[i] with
      | some r => shedUntil shortfall (sum + r.config.iRun) rest (a.stopTo i r .shed r.want)
      | none => shedUntil shortfall sum rest a

/-- Frame shedding against a shortfall (R141). -/
def Sequencer.frameShed (a : Sequencer) (shortfall : Nat) : Sequencer :=
  a.shedUntil shortfall 0 (a.byStamp AuxRecord.eligible)

/-- Shed the records of some slots, all of them (R142). -/
def Sequencer.shedAll : List Slot → Sequencer → Sequencer
  | [], a => a
  | i :: rest, a =>
    match a.table[i] with
    | some r => shedAll rest (a.stopTo i r .shed r.want)
    | none => shedAll rest a

/-- Cut shedding: every COMFORT record in STARTING or RUNNING, and the shortfall count back to 0 (R143). -/
def Sequencer.cutShed (a : Sequencer) : Sequencer :=
  { a.shedAll (a.byStamp AuxRecord.comfortOn) with shortfallCount := 0 }

/-- The shortfall is counted at a frame publication, and frame shedding carried out where the count calls for it
(R140). -/
def Sequencer.countShortfall (a : Sequencer) (shortfall : Nat) : Sequencer :=
  if shortfall = 0 then { a with shortfallCount := 0 }
  else if a.settings.shedFrames ≤ a.shortfallCount + 1 then { a.frameShed shortfall with shortfallCount := 0 }
  else { a with shortfallCount := a.shortfallCount + 1 }

/-! ## The starting slot -/

/-- Whether the head of the queue fits the record published (R134). -/
def AuxRecord.fits (r : AuxRecord) (published : Record) (cs : ContactState) : Bool :=
  match r.config.tier with
  | .essential => decide (r.config.iIn ≤ published.hLine + published.hBat)
  | .comfort => published.mode == .run && cs == .contact && decide (r.config.iIn ≤ published.hLine)

/-- The test of the head at a frame publication: with the slot free, a head that fits leaves the queue and starts
(R134). -/
def Sequencer.testHead (a : Sequencer) (published : Record) (cs : ContactState) : Sequencer :=
  match a.starting, a.queue with
  | none, i :: _ =>
    match a.table[i] with
    | some r =>
      if r.fits published cs then
        { (a.leave i).put i { r with state := .starting, stalled := false, inrush := .running r.config.tIn } with
          starting := some i }
      else a
    | none => a
  | _, _ => a

/-! ## Into the state -/

/-- The sequencer after one of its actions; a change of the AUX_ORDERS vector queues one notice carrying the vector after
the whole action (R136). -/
def State.setAux (s : State) (a : Sequencer) : State :=
  let s' : State := { s with aux := a }
  if a.orders = s.aux.orders then s' else s'.notify (.auxOrders a.orders)

end Sys2Proof.Machine
end

