-- ==== Sys2Proof/Machine/Allotting.lean ====
section
/-! DEFINITION. The allotment unit's own operations (chapters 5 to 7): the frame means, the supervision of the demand and
of the draw, the computation of a record, its publication, and the modifications a record takes between expiries. -/
namespace Sys2Proof.Machine

/-! ## Reading a record -/

/-- The line draw G of a record: its line shares of draw (R85, R118). -/
def Record.lineDraw (r : Record) : Nat := r.aEssLine + r.aCprot + r.aCfree + r.aCh + r.aTrLine

/-- The traction total of a record (R85). -/
def Record.tractionTotal (r : Record) : Nat := r.aTrLine + r.aTrBat

/-- The essential total of a record (R85). -/
def Record.essentialTotal (r : Record) : Nat := r.aEssLine + r.aEssBat

/-- The auxiliary shares of a record: the auxiliaries' room for returned current (R105). -/
def Record.auxShares (r : Record) : Nat := r.aEssLine + r.aEssBat + r.aCprot + r.aCfree

/-- The regeneration ceiling brought to its three parts (R105). -/
def Record.withCeiling (r : Record) : Record := { r with aRg := min 800 (r.aRgLine + r.aRgBat + r.aRgAux) }

/-! ## Means (R71, R72) -/

/-- One mean of a frame: the sum divided by the count, rounded down; a frame without a sample set has no stated mean
(R72; log 7). -/
def frameMean (quantity : Fin 4) (sum : Int) (n : Nat) : Int :=
  if n = 0 then Config.emptyFrameMean quantity sum else sum / (n : Int)

/-- The means of the frame that ends (R72). -/
def Accumulators.means (a : Accumulators) : Means :=
  { vL := frameMean 0 a.vL a.n, iL := frameMean 1 a.iL a.n, vB := frameMean 2 a.vB a.n, iB := frameMean 3 a.iB a.n }

/-- A sample set is added to the accumulators as delivered (R71). -/
def Accumulators.add (a : Accumulators) (values : Vector Int 8) : Accumulators :=
  { vL := a.vL + values[0], iL := a.iL + values[1], vB := a.vB + values[6], iB := a.iB + values[7], n := a.n + 1 }

/-! ## Supervision of the demand and of the draw (chapter 7) -/

/-- Whether staleness handling acts on a demand of this age and mode (R114). -/
def DemandRecord.stale (d : DemandRecord) (hold : Nat) : Bool := decide (hold < d.age) && d.mode != .brake

/-- The age advances and a stale MOTOR or COAST magnitude is lowered (R114). -/
def DemandRecord.grow (d : DemandRecord) (hold decay : Nat) : DemandRecord :=
  let aged : DemandRecord := { d with age := satSucc 65535 d.age }
  if aged.stale hold then { aged with effective := aged.effective - decay } else aged

/-- A demand found silent at its cutoff with its flag clear (R115). -/
def DemandRecord.fallsSilent (d : DemandRecord) (cutoff : Nat) : Bool := decide (cutoff ≤ d.age) && !d.silent

/-- Staleness handling replaced the received magnitude at this expiry: the STALE flag (R84, R114). -/
def AllotmentUnit.staleFlag (u : AllotmentUnit) : Bool :=
  match u.demand with
  | some d => d.stale u.demandSettings.holdFrames
  | none => false

/-- Age and staleness of the demand, and its silence; with the event raised (R114, R115). -/
def AllotmentUnit.superviseDemand (u : AllotmentUnit) : AllotmentUnit × List Event :=
  match u.demand with
  | none => (u, [])
  | some d =>
    let grown := d.grow u.demandSettings.holdFrames u.demandSettings.staleDecay
    if grown.fallsSilent u.demandSettings.cutoffFrames then
      ({ u with demand := some { grown with silent := true } }, [⟨.demandSilent, .advisory, .absent⟩])
    else ({ u with demand := some grown }, [])

/-- The overdraw comparison of the frame that ends, its marks and its raise flags; with the events raised (R118,
R119). -/
def AllotmentUnit.superviseDraw (u : AllotmentUnit) (meanIL : Int) (current : Option Nat) :
    AllotmentUnit × List Event :=
  let marked : AllotmentUnit := { u with afterCut := u.cutMark, cutMark := false }
  if u.cutMark || u.afterCut then (marked, [])
  else if meanIL > (u.record.lineDraw + u.demandSettings.tol : Nat) then
    let count := satSucc 65535 u.overdraw
    let warnNow := decide (u.demandSettings.odWarn ≤ count) && !u.warn
    let persistNow := decide (u.demandSettings.odStop ≤ count) && !u.persist
    ({ marked with overdraw := count, warn := u.warn || warnNow, persist := u.persist || persistNow },
      (if warnNow then [⟨.overdraw, .advisory, .sectionId current⟩] else []) ++
        (if persistNow then [⟨.overdrawPersist, .stopping, .sectionId current⟩] else []))
  else ({ marked with overdraw := 0, warn := false, persist := false }, [])

/-! ## The computation of a record (R74 to R82, R102 to R108) -/

/-- What the computation reads at a frame expiry (R74). -/
structure FrameInputs where
  frame : BitVec 32
  means : Means
  mode : Mode
  contact : ContactState
  limits : Limits
  totals : DemandTotals
  overvolt : Bool
  stale : Bool

/-- The traction request Rt (R78, R114). -/
def AllotmentUnit.request (u : AllotmentUnit) (mode : Mode) : Nat :=
  match u.demand with
  | some d => if d.mode = .motor ∧ u.inhibit = none ∧ mode = .run then d.effective else 0
  | none => 0

/-- The effective traction request Rt_eff: a rise is passed at S_up per frame at most (R78). -/
def AllotmentUnit.effectiveRequest (u : AllotmentUnit) (mode : Mode) : Nat :=
  min (u.request mode) (u.record.tractionTotal + u.line.sUp)

/-- The demand mode, read as COAST while the record is absent (R112). -/
def AllotmentUnit.demandMode (u : AllotmentUnit) : DemandMode :=
  match u.demand with
  | some d => d.mode
  | none => .coast

/-- The charge demand (R103). -/
def AllotmentUnit.chargeDemand (u : AllotmentUnit) (mode : Mode) (kC : Nat) : Nat :=
  if mode = .run ∧ u.battery.charge ∧ u.batteryAvailable ∧ u.demandMode ≠ .brake then scaled u.battery.iBatChg kC
  else 0

/-- The factors of the frame that ends (R75, R77, R102, R104). -/
def AllotmentUnit.factors (u : AllotmentUnit) (m : Means) : Factors :=
  { kV := risingFactor u.line.vFloor u.line.vKnee m.vL
    kB := risingFactor u.battery.vBatMin u.battery.vBatLow m.vB
    kOv := fallingFactor u.battery.vOvk u.battery.vMax m.vL
    kC := fallingFactor u.battery.vChgTaper u.battery.vBatFull m.vB }

/-- The shares a walk grants and the pools it leaves. -/
structure Walk where
  essLine : Nat
  essBat : Nat
  cprot : Nat
  cres : Nat
  trLine : Nat
  trBat : Nat
  cfree : Nat
  ch : Nat
  line : Nat
  bat : Nat

/-- The priority walk of RUN over the line pool and the battery pool (R80). -/
def walkRun (bLine bBat : Nat) (d : DemandTotals) (rCom rt : Nat) (batteryTraction : Bool) (charge : Nat) : Walk :=
  let essLine := min d.dEss bLine
  let essBat := min (d.dEss - essLine) bBat
  let l1 := bLine - essLine
  let b1 := bBat - essBat
  let cprot := min d.dCprot l1
  let l2 := l1 - cprot
  let cres := min (min rCom d.dCfree) l2
  let l3 := l2 - cres
  let trLine := min rt l3
  let l4 := l3 - trLine
  let trBat := if batteryTraction then min (rt - trLine) b1 else 0
  let b2 := b1 - trBat
  let more := min (d.dCfree - cres) l4
  let l5 := l4 - more
  let ch := min charge l5
  { essLine, essBat, cprot, cres, trLine, trBat, cfree := cres + more, ch, line := l5 - ch, bat := b2 }

/-- The walk of SETUP and HALT: its first step alone (R81). -/
def walkReduced (bLine bBat : Nat) (d : DemandTotals) : Walk :=
  let essLine := min d.dEss bLine
  let essBat := min (d.dEss - essLine) bBat
  { essLine, essBat, cprot := 0, cres := 0, trLine := 0, trBat := 0, cfree := 0, ch := 0
    line := bLine - essLine, bat := bBat - essBat }

/-- The record computed at a frame expiry (R74 to R84, R102 to R108). -/
def AllotmentUnit.compute (u : AllotmentUnit) (i : FrameInputs) : Record :=
  let k := u.factors i.means
  let available := lineAvailable i.contact u.reclose
  let bLine := if available then scaled i.limits.iFeed k.kV else 0
  let bBat := if u.batteryAvailable then scaled u.battery.iBatMax k.kB else 0
  let w :=
    if i.mode = .run then
      walkRun bLine bBat i.totals u.line.rCom (u.effectiveRequest i.mode) (u.battery.boost || !available)
        (u.chargeDemand i.mode k.kC)
    else walkReduced bLine bBat i.totals
  let rgLine :=
    if available && i.limits.permitted && !i.overvolt && i.mode == .run then scaled i.limits.iRgmax k.kOv else 0
  let rgBat := if u.batteryAvailable then scaled u.battery.iBatChg k.kC else 0
  let rgAux := w.essLine + w.essBat + w.cprot + w.cfree
  { frame := i.frame
    mode := i.mode
    lineAvailable := available
    means := i.means
    factors := k
    bLine, bBat
    aEssLine := w.essLine, aCprot := w.cprot, aCres := w.cres, aCfree := w.cfree, aCh := w.ch, aTrLine := w.trLine
    aRgLine := rgLine, aEssBat := w.essBat, aTrBat := w.trBat, aRgBat := rgBat, aRgAux := rgAux
    aRg := min 800 (rgLine + rgBat + rgAux)
    hLine := w.line, hBat := w.bat, shortfall := i.totals.dCfree - w.cfree
    flags := newFlags i.contact u.reclose k.kV u.inhibit.isSome i.stale }

/-! ## Modifications between expiries -/

/-- The record after a cut (R86). -/
def Record.cutNow (r : Record) : Record :=
  let ess := min r.essentialTotal r.bBat
  let tr := min r.tractionTotal (r.bBat - ess)
  { r with
    bLine := 0, aEssLine := 0, aCprot := 0, aCres := 0, aCfree := 0, aCh := 0, aTrLine := 0, aRgLine := 0, hLine := 0
    aEssBat := ess, aTrBat := tr, hBat := r.bBat - ess - tr, shortfall := 0
    aRgAux := ess, aRg := min 800 (r.aRgBat + ess)
    flags := { r.flags with cut := true } }

/-- The record after an overvoltage cut (R88). -/
def Record.overvoltageCut (r : Record) : Record :=
  { r with aRgLine := 0, aRg := min 800 (r.aRgBat + r.aRgAux) }

/-- The record after a mode cut (R89). -/
def Record.modeCut (r : Record) (mode : Mode) : Record :=
  { r with
    mode := mode
    aCprot := 0, aCres := 0, aCfree := 0, aCh := 0, aTrLine := 0, aTrBat := 0, aRgLine := 0
    hLine := r.bLine - r.aEssLine, hBat := r.bBat - r.aEssBat, shortfall := 0
    aRgAux := r.aEssLine + r.aEssBat, aRg := min 800 (r.aRgBat + (r.aEssLine + r.aEssBat)) }

/-- The line budget and shares lowered to a feeder limit below the line budget (R90): the excess is taken from A_ch, the
part of A_cfree above A_cres, A_tr_line, A_cres with A_cfree, A_cprot and A_ess_line, in that order. -/
def Record.fitFeeder (r : Record) (iFeed : Nat) : Record :=
  if iFeed < r.bLine then
    let x0 := r.lineDraw - iFeed
    let fromCh := min r.aCh x0
    let x1 := x0 - fromCh
    let fromFree := min (r.aCfree - r.aCres) x1
    let x2 := x1 - fromFree
    let fromTr := min r.aTrLine x2
    let x3 := x2 - fromTr
    let fromRes := min r.aCres x3
    let x4 := x3 - fromRes
    let fromProt := min r.aCprot x4
    let x5 := x4 - fromProt
    let fromEss := min r.aEssLine x5
    let lowered : Record :=
      { r with
        bLine := iFeed
        aCh := r.aCh - fromCh, aCfree := r.aCfree - fromFree - fromRes, aTrLine := r.aTrLine - fromTr
        aCres := r.aCres - fromRes, aCprot := r.aCprot - fromProt, aEssLine := r.aEssLine - fromEss }
    { lowered with hLine := iFeed - lowered.lineDraw }
  else r

/-- The record after a limit change, where it lowers something (R90). -/
def Record.fitLimits (r : Record) (l : Limits) : Record :=
  let fed := r.fitFeeder l.iFeed
  let rg : Record := { fed with aRgLine := if l.permitted then min fed.aRgLine l.iRgmax else 0 }
  ({ rg with aRgAux := rg.auxShares } : Record).withCeiling

/-- A limit change lowers the line budget or the line regeneration share (R90); the line shares of draw are lowered with
the line budget alone. -/
def Record.limitLowers (r : Record) (l : Limits) : Bool :=
  decide (l.iFeed < r.bLine) || decide (0 < r.aRgLine ∧ (l.permitted = false ∨ l.iRgmax < r.aRgLine))

/-- The record after a battery cut (R98). -/
def Record.batteryCut (r : Record) : Record :=
  ({ r with
      bBat := 0, aEssBat := 0, aTrBat := 0, aRgBat := 0, hBat := 0
      aCh := 0, hLine := r.hLine + r.aCh
      aRgAux := r.aEssLine + r.aCprot + r.aCfree } : Record).withCeiling

/-- A battery cut lowers a field (R98). -/
def Record.batteryCutLowers (r : Record) : Bool :=
  decide (0 < r.bBat ∨ 0 < r.aEssBat ∨ 0 < r.aTrBat ∨ 0 < r.aRgBat ∨ 0 < r.hBat ∨ 0 < r.aCh ∨
    r.batteryCut.aRgAux < r.aRgAux ∨ r.batteryCut.aRg < r.aRg)

/-- The record after I_bat_max is set below its B_bat (R100). -/
def Record.fitBattery (r : Record) (iBatMax : Nat) : Record :=
  let x0 := r.aEssBat + r.aTrBat - iBatMax
  let fromTr := min r.aTrBat x0
  let fromEss := min r.aEssBat (x0 - fromTr)
  let lowered : Record :=
    { r with
      bBat := iBatMax, aTrBat := r.aTrBat - fromTr, aEssBat := r.aEssBat - fromEss
      hBat := iBatMax - (r.aEssBat - fromEss) - (r.aTrBat - fromTr) }
  if 0 < fromEss then ({ lowered with aRgAux := lowered.auxShares } : Record).withCeiling else lowered

/-! ## Into the state -/

/-- Replace the record in force. -/
def State.setRecord (s : State) (r : Record) : State := { s with allot := { s.allot with record := r } }

/-- Mark the frame running as a cut frame (R86, R89, R90, R98). -/
def State.markCut (s : State) : State := { s with allot := { s.allot with cutMark := true } }

/-- Publish the record in force as an ALLOTMENT notice (R83). -/
def State.publish (s : State) : State := s.notify (.allotment s.allot.record)

/-- The sequencer takes a record handed as a cut: cut shedding (R143). -/
def State.shedOnCut (s : State) : State := s.setAux s.aux.cutShed

/-- A cut from the contact monitor (R86). -/
def State.takeCut (s : State) : State :=
  let cut := (s.setRecord s.allot.record.cutNow).markCut
  let stopped : State := { cut with allot := { cut.allot with reclose := .stopped } }
  stopped.shedOnCut.publish

/-- A restore from the contact monitor starts the reclose timer, unless t_rc is 0 (R91). -/
def State.takeRestore (s : State) : State :=
  if s.allot.line.tRc = 0 then s
  else { s with allot := { s.allot with reclose := .running s.allot.line.tRc } }

/-- An overvoltage cut from the contact monitor (R88). -/
def State.takeOvervoltageCut (s : State) : State := (s.setRecord s.allot.record.overvoltageCut).publish

/-- A mode cut on entry to SETUP or HALT (R89). -/
def State.takeModeCut (s : State) (mode : Mode) : State :=
  (s.setRecord (s.allot.record.modeCut mode)).markCut.shedOnCut.publish

/-- A limit change from the section unit (R90). -/
def State.takeLimits (s : State) (l : Limits) : State :=
  if s.allot.record.limitLowers l then (s.setRecord (s.allot.record.fitLimits l)).markCut.publish else s

/-- A battery cut on isolation (R98). -/
def State.takeBatteryCut (s : State) : State :=
  let r := s.allot.record
  let cut := s.setRecord r.batteryCut
  let marked := if 0 < r.aCh then cut.markCut else cut
  if r.batteryCutLowers then marked.publish else marked

/-- I_bat_max set below the B_bat in force lowers the battery budget at once (R100). -/
def State.takeBatteryLimit (s : State) (iBatMax : Nat) : State :=
  if iBatMax < s.allot.record.bBat then (s.setRecord (s.allot.record.fitBattery iBatMax)).publish else s

/-- Traction inhibit is set with a source, unless it is set already (R117). -/
def State.setInhibit (s : State) (source : InhibitSource) : State :=
  match s.allot.inhibit with
  | some _ => s
  | none => { s with allot := { s.allot with inhibit := some source } }

end Sys2Proof.Machine
end

