-- ==== Sys2Proof/Machine/Sectioning.lean ====
section
/-! DEFINITION. The section unit's own operations (chapter 4): the table, the limits in use, the entry of a section, and
the signals of the contact monitor. -/
namespace Sys2Proof.Machine

/-- The entry of a section id, if the table holds it (R55). -/
def SectionUnit.find (u : SectionUnit) (id : Nat) : Option SectionEntry := u.table.find? fun e => e.id = id

/-- The limits of an entry (R57). -/
def SectionEntry.limits (e : SectionEntry) : Limits :=
  { iFeed := e.iFeed, iRgmax := e.iRgmax, permitted := e.permitted }

/-- The default limits of the current section NONE (R56). -/
def SectionUnit.defaultLimits (u : SectionUnit) : Limits :=
  { iFeed := u.settings.iFeedDefault, iRgmax := u.settings.iRgmaxDefault, permitted := true }

/-- The limits in use: those of the current section's entry as it stands, or the defaults for NONE (R56, R57). -/
def SectionUnit.limits (u : SectionUnit) : Limits :=
  match u.current.bind u.find with
  | some e => e.limits
  | none => u.defaultLimits

/-- The gap_max override of an open expectation's pending section, if it carries one (R31). -/
def SectionUnit.gapOverride (u : SectionUnit) : Option Nat :=
  u.expectation.bind fun e => (u.find e.pendingId).bind SectionEntry.gapOverride

/-- Write an entry at its place in id order, replacing the entry of its id (R58). -/
def insertSection (e : SectionEntry) : List SectionEntry → List SectionEntry
  | [] => [e]
  | x :: rest =>
    if e.id < x.id then e :: x :: rest
    else if e.id = x.id then e :: rest
    else x :: insertSection e rest

/-- The checks on an entry carried by SECTION_WRITE, in their order (R58). -/
def SectionUnit.checkEntry (u : SectionUnit) (f : SectionFields) : Option SectionFault :=
  if f.id.toNat = 0 ∨ 4095 < f.id.toNat then some .id
  else if 1000 < f.iFeed.toNat then some .iFeed
  else if 800 < f.iRgmax.toNat then some .iRgmax
  else if 1 < f.permitted.toNat then some .regen
  else if f.override.toNat ≠ 0 ∧ ¬(100 ≤ f.override.toNat ∧ f.override.toNat ≤ 5000) then some .gapOverride
  else if (u.find f.id.toNat).isNone ∧ 32 ≤ u.table.length then some .tableFull
  else none

/-- The entry that the fields carry; an override field of 0 is an absent override (R181). -/
def sectionEntryOf (f : SectionFields) : SectionEntry :=
  { id := f.id.toNat
    iFeed := f.iFeed.toNat
    iRgmax := f.iRgmax.toNat
    permitted := f.permitted.toNat == 1
    gapOverride := if f.override.toNat = 0 then none else some f.override.toNat }

/-! ## Into the state -/

/-- Hand the allotment unit a limit change carrying the limits in use (R57). -/
def State.handLimits (s : State) : State := s.takeLimits s.sections.limits

/-- Make a section current, or NONE, and remove the expectation with its window timer. -/
def State.placeSection (s : State) (current : Option Nat) : State :=
  { s with sections := { s.sections with current := current, expectation := none } }

/-- Write an entry that has passed its checks: a rewrite of the current section hands a limit change (R58, R59). -/
def State.writeSection (s : State) (e : SectionEntry) : State :=
  let s' : State := { s with sections := { s.sections with table := insertSection e s.sections.table } }
  if s.sections.current = some e.id then s'.handLimits else s'

/-- Apply the entries of a SECTION_WRITE one at a time, stopping at the first that fails its checks; with the count
written and the failed check (R58). -/
def State.writeSections (s : State) : List SectionFields → State × Nat × Option SectionFault
  | [] => (s, 0, none)
  | f :: rest =>
    match s.sections.checkEntry f with
    | some fault => (s, 0, some fault)
    | none =>
      let r := (s.writeSection (sectionEntryOf f)).writeSections rest
      (r.1, r.2.1 + 1, r.2.2)

/-- Gap seen: an expectation with gap-seen clear has it set (R63). -/
def State.gapSeen (s : State) : State :=
  match s.sections.expectation with
  | some e => { s with sections := { s.sections with expectation := some { e with gapSeen := true } } }
  | none => s

/-- Gap ended: an expectation with gap-seen set is completed (R63). -/
def State.gapEnded (s : State) : State :=
  match s.sections.expectation with
  | some e => if e.gapSeen then (s.placeSection (some e.pendingId)).handLimits else s
  | none => s

/-- Drop: any expectation is removed (R65). -/
def State.sectionDrop (s : State) : State := { s with sections := { s.sections with expectation := none } }

end Sys2Proof.Machine
end

