-- ==== Sys2Proof/Machine/Alarming.lean ====
section
/-! DEFINITION. The alarm unit's own operations (chapter 3): numbers, snapshots, the active list, the history, condition
ends and acknowledgments. -/
namespace Sys2Proof.Machine

/-- The event kind of an alarm (R37). -/
def AlarmKey.eventKind : AlarmKey → EventKind
  | .poleDrop _ => .poleDrop
  | .raiseMiss _ => .raiseMiss
  | .lineLost => .lineLost
  | .lowerStuck => .lowerStuck

/-- A number not held on the list, found from a starting number upwards with wrapping (R39). -/
def freeNumber (active : List AlarmEntry) : Nat → BitVec 16 → BitVec 16
  | 0, n => n
  | fuel + 1, n => if active.any fun e => e.number = n then freeNumber active fuel (n + 1) else n

/-- The number a new entry takes (R39). -/
def AlarmUnit.nextNumber (u : AlarmUnit) : BitVec 16 := freeNumber u.active u.active.length (u.counter + 1)

/-- The copy of an entry that the history keeps (R50). -/
def AlarmEntry.copy (e : AlarmEntry) : HistoryEntry :=
  { number := e.number, key := e.key, cls := e.cls, raiseFrame := e.raiseFrame, snapshot := e.snapshot
    repeats := e.repeats }

/-- A new alarm is recorded according to the policy in force (R50). -/
def AlarmUnit.recordHistory (u : AlarmUnit) (e : AlarmEntry) : AlarmUnit :=
  match u.policy with
  | .off => u
  | .latest =>
    if u.history.length < 16 then { u with history := u.history ++ [e.copy] }
    else { u with history := u.history.drop 1 ++ [e.copy] }
  | .first =>
    if u.history.length < 16 then { u with history := u.history ++ [e.copy] }
    else { u with historyFull := true }

/-- Set the repeat count of the first entry bearing a number. -/
def setRepeats (number : BitVec 16) (repeats : Nat) : List HistoryEntry → List HistoryEntry
  | [] => []
  | h :: rest =>
    if h.number = number then { h with repeats := repeats } :: rest else h :: setRepeats number repeats rest

/-- The repeat count of the newest history entry bearing a number follows the active entry (R50). Once the numbers have
wrapped, that entry can be an older alarm's copy while the active entry's own raise was not recorded; the model sets it all
the same, as R50's words on the newest copy of the number say (DESIGN CHOICE, log 30, unsafe). -/
def AlarmUnit.followRepeats (u : AlarmUnit) (number : BitVec 16) (repeats : Nat) : AlarmUnit :=
  { u with history := (setRepeats number repeats u.history.reverse).reverse }

/-- The active entry of a key (R37). -/
def AlarmUnit.find (u : AlarmUnit) (k : AlarmKey) : Option AlarmEntry := u.active.find? fun e => e.key = k

/-- Replace an entry of the active list, found by its key, keeping its place. -/
def AlarmUnit.replace (u : AlarmUnit) (e : AlarmEntry) : AlarmUnit :=
  { u with active := u.active.map fun x => if x.key = e.key then e else x }

/-- Remove the entry of a key from the active list; the entries behind it move up. -/
def AlarmUnit.remove (u : AlarmUnit) (k : AlarmKey) : AlarmUnit :=
  { u with active := u.active.filter fun x => x.key != k }

/-- A value of the latest sample set, 0 while there is none (R41). -/
def Measurement.sample (m : Measurement) (c : Channel) : Int :=
  match m.latest with
  | some v => v.values[c]
  | none => 0

/-- The lateral-angle and elevation channels of a pole (R1, R24). -/
def lateralChannel : Pole → Channel
  | .pos => 2
  | .neg => 4

/-- See `lateralChannel`. -/
def elevationChannel : Pole → Channel
  | .pos => 3
  | .neg => 5

/-- The snapshot of a raise (R41). -/
def State.snapshot (s : State) (k : AlarmKey) (before : ContactState) (traction : Nat) : Snapshot :=
  { vl := s.meas.sample 0
    il := s.meas.sample 1
    lateral := k.pole.map fun p => s.meas.sample (lateralChannel p)
    elevation := k.pole.map fun p => s.meas.sample (elevationChannel p)
    traction := traction
    before := before
    sectionId := s.sections.current }

/-- One line of the ALARM notice (R48). -/
def AlarmEntry.line (e : AlarmEntry) : AlarmLine :=
  { number := e.number, key := e.key, state := e.state, repeats := e.repeats }

/-! ## Into the state -/

/-- A changed active list, with its ALARM notice (R48). -/
def State.changeAlarms (s : State) (u : AlarmUnit) : State :=
  ({ s with alarm := u } : State).notify (.alarm (u.active.map AlarmEntry.line))

/-- A condition end acts on the entry of its key (R43). -/
def State.conditionEnd (s : State) (k : AlarmKey) : State :=
  match s.alarm.find k with
  | none => s
  | some e =>
    match e.state with
    | .activeUnack => s.changeAlarms (s.alarm.replace { e with state := .goneUnack })
    | .activeAck => s.changeAlarms (s.alarm.remove k)
    | .goneUnack => s

/-- The detail of the event that an alarm hands to the router (R40). -/
def State.alarmDetail (s : State) : AlarmKey → Detail
  | .poleDrop p | .raiseMiss p => .pole p
  | .lineLost => .sectionId s.sections.current
  | .lowerStuck => .absent

/-- The alarm unit's part of a raise: a new entry with its history copy (R40), or the repeat of the key's entry (R42);
then, for the pole kinds, the withdrawal of raise orders, and the ALARM notice. -/
def State.enterAlarm (s : State) (k : AlarmKey) (cls : Option ConditionClass) (before : ContactState)
    (traction : Nat) : State :=
  let snap := s.snapshot k before traction
  let u : AlarmUnit :=
    match s.alarm.find k with
    | none =>
      let e : AlarmEntry :=
        { number := s.alarm.nextNumber, key := k, cls := cls, state := .activeUnack, raiseFrame := s.allot.frame
          snapshot := snap, repeats := 0, ackPort := none }
      ({ s.alarm with active := s.alarm.active ++ [e], counter := e.number } : AlarmUnit).recordHistory e
    | some old =>
      let e : AlarmEntry :=
        { old with
          repeats := satSucc 255 old.repeats, state := .activeUnack, ackPort := none, cls := cls
          raiseFrame := s.allot.frame, snapshot := snap }
      (s.alarm.replace e).followRepeats e.number e.repeats
  let withdrawn := if k.pole.isSome then s.withdrawRaise else s
  withdrawn.changeAlarms u

end Sys2Proof.Machine
end

