-- ==== Sys2Proof/Machine/Contacting.lean ====
section
/-! DEFINITION. The contact monitor's own operations (chapter 2): evaluations and filters of the monitors, the pole
records, the timers, the derivation of the contact state with its signals, and LOWER. -/
namespace Sys2Proof.Machine

/-! ## Evaluations (R15) -/

/-- The result of an evaluation (R15). -/
inductive Evaluation where
  | condition
  | clean
  | band
  deriving DecidableEq, Repr

/-- The result from the two tests of a monitor (R15). -/
def evaluationOf (condition clean : Bool) : Evaluation :=
  if condition then .condition else if clean then .clean else .band

/-- LOSS on the line voltage (section 2.1). -/
def ContactSettings.evalLoss (c : ContactSettings) (vl : Int) : Evaluation :=
  evaluationOf (decide (vl < c.vLoss)) (decide (vl ≥ (c.vLoss : Int) + c.hLoss))

/-- OVERVOLT on the line voltage (section 2.1). -/
def ContactSettings.evalOvervolt (c : ContactSettings) (vl : Int) : Evaluation :=
  evaluationOf (decide (vl > c.vOv)) (decide (vl ≤ (c.vOv : Int) - c.hOv))

/-- The class of an angle condition, in the order LATERAL, HIGH, LOW; absent when no part holds (R15). -/
def ContactSettings.angleClass (c : ContactSettings) (lateral elevation : Int) : Option ConditionClass :=
  if (lateral.natAbs : Int) > c.latLimit then some .lateral
  else if elevation > c.elevMax then some .high
  else if elevation < c.elevMin then some .low
  else none

/-- An angle monitor on its pole's lateral angle and elevation (section 2.1). -/
def ContactSettings.evalAngle (c : ContactSettings) (lateral elevation : Int) : Evaluation :=
  evaluationOf (c.angleClass lateral elevation).isSome
    (decide ((lateral.natAbs : Int) ≤ (c.latLimit : Int) - c.hAng) &&
      decide (elevation ≤ (c.elevMax : Int) - c.hAng) && decide (elevation ≥ (c.elevMin : Int) + c.hAng))

/-! ## Monitors (R14 to R20) -/

/-- A monitor after a sweep, and what the sweep made it do: enter ASSERTED, and, for an angle monitor, hand its pole an
assertion with a class (R18). -/
structure MonitorStep where
  monitor : Monitor
  entered : Bool := false
  assertion : Option ConditionClass := none

/-- Entry to ASSERTED with the class judged, absent for LOSS and OVERVOLT (R18). -/
def Monitor.enter (m : Monitor) (judged : Option ConditionClass) : MonitorStep :=
  { monitor := { m with state := .asserted, filter := 0, detected := true, cls := judged }
    entered := true, assertion := judged }

/-- An evaluation with result condition while ASSERTED: the count returns to 0, and a class other than the recorded one
is a class change (R15, R18). -/
def Monitor.stayAsserted (m : Monitor) (judged : Option ConditionClass) : MonitorStep :=
  if judged = m.cls then { monitor := { m with filter := 0 } }
  else { monitor := { m with filter := 0, detected := true, cls := judged }, assertion := judged }

/-- A clean evaluation while ASSERTED: the fourth in a row clears the monitor (R16, R17). -/
def Monitor.countClean (m : Monitor) : MonitorStep :=
  if 4 ≤ m.filter + 1 then { monitor := { m with state := .clear, filter := 0 } }
  else { monitor := { m with filter := m.filter + 1 } }

/-- An evaluation of a CLEAR or ASSERTED monitor in its filter mode (R15 to R18). -/
def Monitor.evaluate (m : Monitor) (mode : FilterMode) (e : Evaluation) (judged : Option ConditionClass) :
    MonitorStep :=
  match m.state, e with
  | .clear, .condition =>
    match mode with
    | .direct => m.enter judged
    | .filtered => if 4 ≤ m.filter + 1 then m.enter judged else { monitor := { m with filter := m.filter + 1 } }
  | .asserted, .condition => m.stayAsserted judged
  | .asserted, .clean => m.countClean
  | _, _ => { monitor := { m with filter := 0 } }

/-- A monitor takes one sweep (R16, R17, R19, R20): a settling monitor counts the sweep, held or not; a held sweep is not
evaluated; a FILTERED monitor evaluates on every d-th sweep, a DIRECT one on every sweep. -/
def Monitor.takeSweep (m : Monitor) (set : MonitorSetting) (held : Bool) (e : Evaluation)
    (judged : Option ConditionClass) : MonitorStep :=
  match m.state with
  | .disabled => { monitor := m }
  | .settling =>
    if 8 ≤ m.settling + 1 then { monitor := { m with state := .clear, settling := 0, filter := 0, decimation := 0 } }
    else { monitor := { m with settling := m.settling + 1 } }
  | _ =>
    if held then { monitor := m }
    else
      match set.mode with
      | .direct => m.evaluate .direct e judged
      | .filtered =>
        if set.decimation ≤ m.decimation + 1 then ({ m with decimation := 0 } : Monitor).evaluate .filtered e judged
        else { monitor := { m with decimation := m.decimation + 1 } }

/-! ## Pole records (R24 to R28) -/

/-- A pole enters a state: the stow count returns to 0 and, since no seat timer runs outside RAISING, the seat timer is
stopped (R24, R26). -/
def PoleRecord.enter (r : PoleRecord) (state : PoleState) : PoleRecord :=
  { r with state := state, stowCount := 0, seat := .stopped }

/-- What a pole's record hands over on a sweep: an alarm raise with its class, or its condition end (R25, R27). -/
inductive PoleSignal where
  | raised (key : AlarmKey) (cls : ConditionClass)
  | ended
  deriving DecidableEq, Repr

/-- An assertion handed to a pole record (R27); the class is copied in every state (R18, R24). -/
def PoleRecord.takeAssertion (r : PoleRecord) (pole : Pole) (cls : ConditionClass) : PoleRecord × Option PoleSignal :=
  let copied : PoleRecord := { r with lastClass := some cls }
  match r.state, cls with
  | .onWire, _ => (copied.enter .dewired, some (.raised (.poleDrop pole) cls))
  | .raising, .low => (copied, none)
  | .raising, _ => (copied.enter .dewired, some (.raised (.raiseMiss pole) cls))
  | _, _ => (copied, none)

/-- The state a pole leaves for on its fourth consecutive passing sweep (R25). -/
def PoleState.afterStow : PoleState → PoleState
  | .stowed => .raising
  | .onWire => .dewired
  | .unknown => .unknown
  | _ => .stowed

/-- The stow test of a pole's present state (R25). -/
def PoleState.stowTest (p : PoleState) (stowLevel : Nat) (elevation : Int) : Bool :=
  match p with
  | .stowed => decide (elevation > stowLevel)
  | _ => decide (elevation ≤ stowLevel)

/-- The stow count on a sweep, and the change of state on the fourth passing sweep in a row (R25); with `settled`, a pole
still UNKNOWN is decided from its elevation instead (R24). A held elevation leaves the record as it is. -/
def PoleRecord.takeElevation (r : PoleRecord) (pole : Pole) (stowLevel : Nat) (elevation : Int)
    (held settled : Bool) : PoleRecord × Option PoleSignal :=
  if held then (r, none)
  else if r.state = .unknown then
    if settled then (r.enter (if elevation ≤ stowLevel then .stowed else .raising), none) else (r, none)
  else if r.state.stowTest stowLevel elevation then
    if 4 ≤ r.stowCount + 1 then
      (r.enter r.state.afterStow,
        match r.state with
        | .onWire => some (.raised (.poleDrop pole) .low)
        | .dewired => some .ended
        | _ => none)
    else ({ r with stowCount := r.stowCount + 1 }, none)
  else ({ r with stowCount := 0 }, none)

/-- A LOWER moves an ON_WIRE or RAISING pole to LOWERING (R28). -/
def PoleRecord.lowerNow (r : PoleRecord) : PoleRecord :=
  if r.state = .onWire ∨ r.state = .raising then r.enter .lowering else r

/-- The seat timer of a pole runs while the pole is RAISING, its angle output CLEAR and the LOSS output CLEAR (R26). -/
def ContactUnit.seatOf (u : ContactUnit) (p : Pole) : PoleRecord :=
  let r := u.poles.get p
  if r.state == .raising && !(u.monitors.get (angleMonitor p)).output && !u.monitors.loss.output then
    if r.seat.isRunning then r else { r with seat := .running u.settings.seatTime }
  else { r with seat := .stopped }

/-- A pole is LOWERING. -/
def ContactUnit.anyLowering (u : ContactUnit) : Bool := u.poles.any fun r => r.state == .lowering

/-- The contact monitor brings its derived state and its timers up to date after one of its events (R26, R28, R30, R31):
on entry to GAP the gap timer starts with the override or gap_max; outside GAP and LOST it is stopped; the lowering timer
is stopped whenever no pole is LOWERING; the seat timers follow their conditions. -/
def ContactUnit.settle (u : ContactUnit) (override : Option Nat) : ContactUnit :=
  let after := u.derive
  { u with
    contact := after
    gapTimer := match after with
      | .gap => if u.contact = .gap then u.gapTimer else .running (override.getD u.settings.gapMax)
      | .lost => u.gapTimer
      | _ => .stopped
    loweringTimer := if u.anyLowering then u.loweringTimer else .stopped
    poles := { pos := u.seatOf .pos, neg := u.seatOf .neg } }

/-- The CONTACT notice as the contact monitor stands (R30). -/
def ContactUnit.notice (u : ContactUnit) : Notice :=
  .contact u.contact (u.poles.map PoleRecord.state) (u.poles.map PoleRecord.lastClass)

/-- The contact state or a pole state differs between two moments (R30). -/
def ContactUnit.changedFrom (after before : ContactUnit) : Bool :=
  !(after.contact == before.contact && after.poles.map PoleRecord.state == before.poles.map PoleRecord.state)

/-! ## Into the state -/

/-- Derive the contact state anew and bring the timers up to date (R30). -/
def State.settleContact (s : State) : State :=
  { s with contact := s.contact.settle s.sections.gapOverride }

/-- The cut and the restore of a change of contact state (R32). -/
def State.lineSignals (s : State) (before after : ContactState) : State :=
  if before = after then s
  else if before = .contact then s.takeCut
  else if after = .contact then s.takeRestore
  else s

/-- The signals to the section unit of a change of contact state (R33). -/
def State.sectionSignals (s : State) (before after : ContactState) : State :=
  if before = after then s
  else
    match after with
    | .gap => s.gapSeen
    | .contact => if before = .gap then s.gapEnded else s
    | _ => s.sectionDrop

/-- The condition end of LINE_LOST, when the contact state leaves LOST (R31, R43). -/
def State.endLineLost (s : State) (before after : ContactState) : State :=
  if before = .lost ∧ after ≠ .lost then s.conditionEnd .lineLost else s

/-- Queue the CONTACT notice when an event has changed the contact state or a pole state (R30). -/
def State.noticeContact (s : State) (changed : Bool) : State := if changed then s.notify s.contact.notice else s

/-- LOWER's effect on the contact monitor: ON_WIRE and RAISING poles become LOWERING, POLE_ORDER(LOWER) is queued, the
contact state is derived anew with its signals, and a stopped lowering timer is started while a pole is LOWERING (R28).
The LOWER_POLES action is the same without a reply. -/
def State.lowerPoles (s : State) : State :=
  let before := s.contact
  let ordered := ({ s with contact := { s.contact with poles := s.contact.poles.map PoleRecord.lowerNow } } :
    State).notify (.poleOrder .lower)
  let settled := ordered.settleContact
  let after := settled.contact.contact
  let timed : State :=
    if settled.contact.anyLowering && settled.contact.loweringTimer == .stopped then
      { settled with contact :=
          { settled.contact with loweringTimer := .running settled.contact.settings.lowerTimeMax } }
    else settled
  (((timed.lineSignals before.contact after).sectionSignals before.contact after).endLineLost before.contact
    after).noticeContact (settled.contact.changedFrom before)

/-- A LOWER lowers at least one pole (R28). -/
def ContactUnit.canLower (u : ContactUnit) : Bool :=
  u.poles.any fun r => r.state == .onWire || r.state == .raising

end Sys2Proof.Machine
end

