-- ==== Sys2Proof/Machine/Routing.lean ====
section
/-! DEFINITION. The event router (chapter 10): mode changes, the handling of an event with its routed action, and what
rests on it: the raise of an alarm (R40, R42) and the contact monitor's hand-over after one of its events (R14). -/
namespace Sys2Proof.Machine

/-- A change of mode, within the action that makes it: entry to SETUP or HALT tells the allotment unit, and a MODE notice
goes to every port (R157). -/
def State.changeMode (s : State) (new : Mode) (cause : ModeCause) : State :=
  let left := s.router.mode
  let entered : State := { s with router := { s.router with mode := new } }
  let told := if new = .run then entered else entered.takeModeCut new
  told.notify (.mode new (some left) cause)

/-- A fault-table entry brought up to date by an event (R153). -/
def FaultEntry.record (f : FaultEntry) (e : Event) (frame : BitVec 32) : FaultEntry :=
  { latch := f.latch.higher e.cls.latch
    count := satSucc 65535 f.count
    lastFrame := frame
    lastDetail := e.detail }

/-- Perform a routed action (R149, R152). -/
def State.perform (s : State) : Action → State
  | .lowerPoles => s.lowerPoles
  | .tractionInhibit source => s.setInhibit source

/-- The first step of handling an event: the fault table, and the move from RUN to HALT on a STOPPING event (R152,
R153, R157). -/
def State.latchEvent (s : State) (e : Event) : State :=
  let i := e.kind.index
  let latched : State :=
    { s with router :=
        { s.router with faults := s.router.faults.set i (s.router.faults[i].record e s.allot.frame) } }
  if e.cls = .stopping ∧ s.router.mode = .run then latched.changeMode .halt (.fault e.kind) else latched

/-- The EVENT notice of an event (R152). -/
def Event.notice (e : Event) (acted : Bool) : Notice := .event (BitVec.ofNat 16 (2 ^ e.kind.index.val)) e acted

/-- The router handles an event as one action: fault table, routed action where enabled, EVENT notices to the masked
ports (R152). -/
def State.handleEvent (s : State) (e : Event) : State :=
  let route := s.router.routing[e.kind.index]
  let latched := s.latchEvent e
  match (if route.action then e.kind.action else none) with
  | some a => (latched.perform a).queueTo (fun p => route.mask.getLsbD p) (e.notice true)
  | none => latched.queueTo (fun p => route.mask.getLsbD p) (e.notice false)

/-- Handle several events, each whole before the next (R149). -/
def State.handleEvents (s : State) (es : List Event) : State := es.foldl State.handleEvent s

/-- A raise of an alarm is taken in full: the alarm unit's part, then the event of the same kind (R40, R42). All four
kinds are ADVISORY. -/
def State.raiseAlarm (s : State) (k : AlarmKey) (cls : Option ConditionClass) (before : ContactState)
    (traction : Nat) : State :=
  let entered := s.enterAlarm k cls before traction
  entered.handleEvent ⟨k.eventKind, .advisory, entered.alarmDetail k⟩

/-! ## The contact monitor's hand-over -/

/-- What the contact monitor hands the alarm unit (R27): a raise, or the condition end of a key. -/
inductive AlarmSignal where
  | raised (key : AlarmKey) (cls : Option ConditionClass)
  | ended (key : AlarmKey)
  deriving DecidableEq, Repr

/-- The alarm unit takes what the contact monitor hands it (R40, R42, R43). -/
def State.takeAlarm (before : ContactState) (traction : Nat) (s : State) : AlarmSignal → State
  | .raised k cls => s.raiseAlarm k cls before traction
  | .ended k => s.conditionEnd k

/-- What one event of the contact monitor has made it hand over, besides what follows from the change of contact state:
the alarms of the poles, those of the vehicle, and an entry of OVERVOLT to ASSERTED. -/
structure HandOver where
  poleAlarms : List AlarmSignal := []
  vehicleAlarms : List AlarmSignal := []
  overvolt : Bool := false

/-- After one of its events the contact monitor derives the contact state anew (R30) and then sends, in the order of R14,
the signals the event has caused (R32, R33, R22), the alarm raises and ends in the order of R27, the events (R31, R22)
and the CONTACT notice. `before` is the monitor and `traction` the traction total in force before the event (R41). -/
def State.handOver (s : State) (before : ContactUnit) (traction : Nat) (h : HandOver) : State :=
  let settled := s.settleContact
  let after := settled.contact.contact
  let unexpected := before.contact != .gap && after == .gap && s.sections.expectation.isNone
  let signalled := (settled.lineSignals before.contact after).sectionSignals before.contact after
  let cut := if h.overvolt then signalled.takeOvervoltageCut else signalled
  let poleAlarms := h.poleAlarms.foldl (State.takeAlarm before.contact traction) cut
  let ended := poleAlarms.endLineLost before.contact after
  let alarmed := h.vehicleAlarms.foldl (State.takeAlarm before.contact traction) ended
  let gapEvent :=
    if unexpected then alarmed.handleEvent ⟨.gapUnexpected, .advisory, .sectionId alarmed.sections.current⟩
    else alarmed
  let events := if h.overvolt then gapEvent.handleEvent ⟨.overvolt, .advisory, .channel 0⟩ else gapEvent
  events.noticeContact (settled.contact.changedFrom before)

end Sys2Proof.Machine
end

