-- ==== Sys2Proof/Machine/Publishing.lean ====
section
/-! DEFINITION. A frame expiry (R73): the means, the supervision of demand and draw, the computation, the installation and
publication of the record, the sequencer's work on it (R140, R144, R134), and the events at its end. -/
namespace Sys2Proof.Machine

/-- The essential shortage test at a frame publication (R144). -/
def State.testEssential (s : State) (published : Record) : State :=
  if published.essentialTotal < s.aux.totals.dEss then
    if s.aux.essentialShort then s
    else ({ s with aux := { s.aux with essentialShort := true } } : State).handleEvent
      ⟨.essentialShort, .advisory, .absent⟩
  else { s with aux := { s.aux with essentialShort := false } }

/-- The sequencer takes a frame publication: shortfall count and shedding, essential shortage, head test (R140). -/
def State.takePublication (s : State) (published : Record) : State :=
  let counted := s.setAux (s.aux.countShortfall published.shortfall)
  let tested := counted.testEssential published
  tested.setAux (tested.aux.testHead published tested.contact.contact)

/-- Steps 1 to 3 of R73 on the allotment unit: the accumulators taken, the staged period applied and the frame timer
restarted, the demand and the draw supervised; with the means and the events raised, in their order. -/
def AllotmentUnit.endFrame (u : AllotmentUnit) (current : Option Nat) : AllotmentUnit × Means × List Event :=
  let means := u.acc.means
  let period := u.stagedTf.getD u.line.tF
  let restarted : AllotmentUnit :=
    { u with acc := .empty, stagedTf := none, line := { u.line with tF := period }, frameTimer := .running period }
  let demanded := restarted.superviseDemand
  let drawn := demanded.1.superviseDraw means.iL current
  (drawn.1, means, demanded.2 ++ drawn.2)

/-- The sag reference after a record is installed: it follows k_v when the line is available (R84). -/
def sagAfter (reference : SagReference) (r : Record) : SagReference :=
  if r.lineAvailable then (if r.factors.kV < 1024 then .reduced else .full) else reference

/-- Whether the installed record raises SAG (R84). -/
def sagRaised (reference : SagReference) (r : Record) : Bool :=
  r.lineAvailable && decide (r.factors.kV < 1024) && reference == .full

/-- A frame expiry, as one action in the seven steps of R73. -/
def State.expireFrame (s : State) : State :=
  let ended := s.allot.endFrame s.sections.current
  let u := ended.1
  let overvolt := s.contact.monitors.overvolt.output
  let record := u.compute
    { frame := u.frame + 1, means := ended.2.1, mode := s.router.mode, contact := s.contact.contact
      limits := s.sections.limits, totals := s.aux.totals, overvolt := overvolt, stale := u.staleFlag }
  let installed : State :=
    { s with allot :=
        { u with frame := u.frame + 1, record := record, overvoltRead := overvolt, sag := sagAfter u.sag record } }
  let published := (installed.takePublication record).publish
  let supervised := published.handleEvents ended.2.2
  if sagRaised u.sag record then supervised.handleEvent ⟨.sag, .advisory, .sectionId supervised.sections.current⟩
  else supervised

end Sys2Proof.Machine
end

