-- ==== Sys2Proof/Machine/Sweeping.lean ====
section
/-! DEFINITION. A sweep completion (chapters 1 and 2): conversion, rail handling, the sample set, and the contact
monitor's work on it. -/
namespace Sys2Proof.Machine

/-! ## Conversion and rail handling -/

/-- The range of a channel, lowest and highest value (R1). -/
def channelRange : Vector (Int × Int) 8 :=
  #v[(0, 1000), (-800, 800), (-600, 600), (0, 900), (-600, 600), (0, 900), (0, 900), (-400, 400)]

/-- The unclamped result u of a conversion (R3). -/
def Calibration.convert (c : Calibration) (raw : RawCode) : Int :=
  (((raw.toNat : Int) - c.offset) * c.gain + 2048) / 4096

/-- A rail code (section 1.4). -/
def isRail (raw : RawCode) : Bool := raw == 0 || raw == 4095

/-- What a sweep makes of one channel: the value and at-limit flag delivered, whether the value is a held one, the
channel's state after, and whether it became faulted. -/
structure ChannelStep where
  value : Int
  atLimit : Bool
  held : Bool
  channel : ChannelState
  faulted : Bool := false
  deriving DecidableEq, Repr

/-- A channel delivers its held value (R10). -/
def ChannelState.deliverHeld (c : ChannelState) (after : ChannelState) (faulted : Bool) : ChannelStep :=
  { value := c.held, atLimit := c.heldAtLimit, held := true, channel := after, faulted := faulted }

/-- A channel delivers its converted value, clamped to its range, which becomes the held value (R4, R10); the fault flag
is clear and the rail count 0 afterwards. -/
def deliverConverted (u : Int) (range : Int × Int) : ChannelStep :=
  let v := clampInt range.1 range.2 u
  let l := decide (u < range.1 ∨ range.2 < u)
  { value := v, atLimit := l, held := false
    channel := { held := v, heldAtLimit := l, fault := false, railCount := 0 } }

/-- The rail handling and delivery of one channel (R8 to R11). -/
def ChannelState.takeCode (c : ChannelState) (cal : Calibration) (range : Int × Int) (raw : RawCode) : ChannelStep :=
  if c.fault then
    if isRail raw then c.deliverHeld { c with railCount := 0 } false
    else if 32 ≤ c.railCount + 1 then deliverConverted (cal.convert raw) range
    else c.deliverHeld { c with railCount := c.railCount + 1 } false
  else if isRail raw then
    if 32 ≤ c.railCount + 1 then c.deliverHeld { c with fault := true, railCount := 0 } true
    else c.deliverHeld { c with railCount := c.railCount + 1 } false
  else deliverConverted (cal.convert raw) range

/-- The eight channels on a sweep's codes. -/
def Measurement.takeCodes (m : Measurement) (codes : Vector RawCode 8) : Vector ChannelStep 8 :=
  Vector.ofFn fun c => (m.channels[c]).takeCode m.calib[c] channelRange[c] codes[c]

/-- The sample set becomes the latest, the sweep number is increased, and the next sweep begins with a staged period
applied (R5, R6, R7). -/
def Measurement.complete (m : Measurement) (steps : Vector ChannelStep 8) : Measurement :=
  let period := m.staged.getD m.period
  { m with
    period := period
    staged := none
    inFlight := some period
    number := m.number + 1
    latest := some
      { number := m.number
        values := Vector.ofFn fun c => (steps[c]).value
        atLimit := Vector.ofFn fun c => (steps[c]).atLimit }
    channels := Vector.ofFn fun c => (steps[c]).channel }

/-- The class of a MEASURE_FAULT by channel (R9). -/
def measureFaultClass (c : Channel) : EventClass := if c.val ≤ 1 then .stopping else .advisory

/-- The MEASURE_FAULT events of the channels that became faulted, in channel order (R9; log 8). -/
def faultEvents (steps : Vector ChannelStep 8) : List Event :=
  (List.finRange 8).filterMap fun c =>
    if (steps[c]).faulted then some ⟨.measureFault, measureFaultClass c, .channel c⟩ else none

/-! ## The contact monitor on a sample set (R14) -/

/-- The four monitors on a sample set. -/
def ContactUnit.stepMonitors (u : ContactUnit) (steps : Vector ChannelStep 8) : PerMonitor MonitorStep :=
  let c := u.settings
  let v := fun i : Channel => (steps[i]).value
  let h := fun i : Channel => (steps[i]).held
  { loss := u.monitors.loss.takeSweep c.monitors.loss (h 0) (c.evalLoss (v 0)) none
    anglePos := u.monitors.anglePos.takeSweep c.monitors.anglePos (h 2 || h 3) (c.evalAngle (v 2) (v 3))
      (c.angleClass (v 2) (v 3))
    angleNeg := u.monitors.angleNeg.takeSweep c.monitors.angleNeg (h 4 || h 5) (c.evalAngle (v 4) (v 5))
      (c.angleClass (v 4) (v 5))
    overvolt := u.monitors.overvolt.takeSweep c.monitors.overvolt (h 0) (c.evalOvervolt (v 0)) none }

/-- One pole record on a sample set: an assertion its angle monitor has just handed it, then its elevation (R14, R24 to
R27); with what it hands over, in that order. -/
def ContactUnit.stepPole (u : ContactUnit) (p : Pole) (assertion : Option ConditionClass) (step : ChannelStep)
    (settled : Bool) : PoleRecord × List PoleSignal :=
  let asserted := match assertion with
    | some cls => (u.poles.get p).takeAssertion p cls
    | none => (u.poles.get p, none)
  let moved := asserted.1.takeElevation p u.settings.stowLevel step.value step.held settled
  (moved.1, asserted.2.toList ++ moved.2.toList)

/-- The alarm signals of a pole: a raise, or the condition end of both of the pole's keys (R27, R43). -/
def PoleSignal.alarms (p : Pole) : PoleSignal → List AlarmSignal
  | .raised k cls => [.raised k (some cls)]
  | .ended => [.ended (.poleDrop p), .ended (.raiseMiss p)]

/-- The contact monitor's monitors and pole records after a sample set, and what it has to hand over (R14). The condition
end of LOWER_STUCK is sent when the last LOWERING pole has stowed (R28). -/
def ContactUnit.takeSet (u : ContactUnit) (steps : Vector ChannelStep 8) : ContactUnit × HandOver :=
  let mons := u.stepMonitors steps
  let sweeps := satSucc 8 u.settleSweeps
  let settled := decide (8 ≤ sweeps)
  let pos := u.stepPole .pos mons.anglePos.assertion (steps[elevationChannel .pos]) settled
  let neg := u.stepPole .neg mons.angleNeg.assertion (steps[elevationChannel .neg]) settled
  let u' : ContactUnit :=
    { u with
      monitors := mons.map MonitorStep.monitor
      poles := { pos := pos.1, neg := neg.1 }
      settleSweeps := sweeps }
  (u',
    { poleAlarms := pos.2.flatMap (PoleSignal.alarms .pos) ++ neg.2.flatMap (PoleSignal.alarms .neg)
      vehicleAlarms := if u.anyLowering && !u'.anyLowering then [.ended .lowerStuck] else []
      overvolt := mons.overvolt.entered })

/-! ## The whole sweep completion -/

/-- A sweep completion (R7): the channels' codes, the sample set, the MEASURE_FAULT events; the allotment unit's
accumulators (R71); the contact monitor (R14). -/
def State.sweep (s : State) (codes : Vector RawCode 8) : State :=
  let steps := s.meas.takeCodes codes
  let measured := ({ s with meas := s.meas.complete steps } : State).handleEvents (faultEvents steps)
  let counted : State :=
    { measured with allot :=
        { measured.allot with acc := measured.allot.acc.add (Vector.ofFn fun c => (steps[c]).value) } }
  let taken := counted.contact.takeSet steps
  ({ counted with contact := taken.1 } : State).handOver counted.contact counted.allot.record.tractionTotal taken.2

end Sys2Proof.Machine
end

