-- ==== Sys2Proof/Machine/Expiries.lean ====
section
/-! DEFINITION. The meanings of the part's own events: the sweep completion, the timers' expiries and a save's completion.
An expiry of a timer that is not running, and a completion of what is not in flight, do nothing (log 3). -/
namespace Sys2Proof.Machine

/-! ## Effects -/

/-- A seat timer's expiry: the pole becomes ON_WIRE and the contact state is derived anew (R26, R30). -/
def State.seatExpired (s : State) (p : Pole) : State :=
  let r := s.contact.poles.get p
  if r.state == .raising && r.seat.isRunning then
    ({ s with contact := { s.contact with poles := s.contact.poles.set p (r.enter .onWire) } } : State).handOver
      s.contact s.allot.record.tractionTotal {}
  else s

/-- The gap timer's expiry: the contact state becomes LOST and LINE_LOST is raised (R31). -/
def State.gapExpired (s : State) : State :=
  if s.contact.gapTimer.isRunning then
    let expired : ContactUnit := { s.contact with gapTimer := .expired }
    ({ s with contact := expired } : State).handOver s.contact s.allot.record.tractionTotal
      { vehicleAlarms := if expired.derive = .lost then [.raised .lineLost none] else [] }
  else s

/-- The lowering timer's expiry: the poles stay LOWERING and LOWER_STUCK is raised (R28). -/
def State.loweringExpired (s : State) : State :=
  if s.contact.loweringTimer.isRunning then
    ({ s with contact := { s.contact with loweringTimer := .stopped } } : State).handOver
      s.contact s.allot.record.tractionTotal { vehicleAlarms := [.raised .lowerStuck none] }
  else s

/-- The window timer's expiry (R64): with gap-seen clear the pending section becomes current and SECTION_NO_GAP is
raised; with it set the timer stays expired. -/
def State.windowExpired (s : State) : State :=
  match s.sections.expectation with
  | none => s
  | some e =>
    if !e.window.isRunning then s
    else if e.gapSeen then
      { s with sections := { s.sections with expectation := some { e with window := .expired } } }
    else
      (s.placeSection (some e.pendingId)).handLimits.handleEvent
        ⟨.sectionNoGap, .advisory, .sectionId (some e.pendingId)⟩

/-- The inrush timer's expiry: the record enters RUNNING, frees the starting slot, takes its stamp and starts its timers
(R129, R130). -/
def Sequencer.inrushExpired (a : Sequencer) (i : Slot) (r : AuxRecord) : Sequencer :=
  ({ a with starting := if a.starting = some i then none else a.starting } : Sequencer).put i
    { r with
      state := .running
      inrush := .stopped
      stamp := some (a.runningCount + 1)
      onTimer := if r.config.tOnMin = 0 then .expired else .running (r.config.tOnMin * 1000)
      runTimer := match r.config.mode, r.config.tRun with
        | .timed, some t => .running (t * 1000)
        | _, _ => .stopped }

/-- An event of a slot's record, where the record is present and the event is one that can come (log 3). -/
def State.auxEvent (s : State) (i : Slot) (due : AuxRecord → Bool) (f : AuxRecord → Sequencer) : State :=
  match s.aux.table[i] with
  | some r => if due r then s.setAux (f r) else s
  | none => s

/-- The stall timer's expiry: it stays expired, and a head not yet reported is reported (R135). -/
def State.stallExpired (s : State) : State :=
  if !s.aux.stall.isRunning then s
  else
    let expired : Sequencer := { s.aux with stall := .expired }
    match s.aux.queue with
    | [] => { s with aux := expired }
    | i :: _ =>
      match s.aux.table[i] with
      | some r =>
        if r.stalled then { s with aux := expired }
        else
          ({ s with aux := expired.put i { r with stalled := true } } : State).handleEvent
            ⟨.startStalled, .advisory, .slot i⟩
      | none => { s with aux := expired }

/-- The completion of a save: the image agrees with the snapshot or does not (R164; log 11). -/
def State.saveCompleted (s : State) (agrees : Bool) : State :=
  match s.store.save with
  | none => s
  | some v =>
    ({ s with store :=
        { s.store with
          save := none
          nv := if agrees then .written v.snapshot v.snapshot.checksum else .torn
          imageState := if agrees then .valid else .corrupt } } : State).notify
      (.mode s.router.mode none (.saveDone agrees))

/-! ## Meanings -/

/-- SWEEP_COMPLETION (R7). -/
def execSweepCompletion (codes : Vector RawCode 8) (s : State) : Host.Outcome State Fault Refusal :=
  s.act fun s => if s.meas.inFlight.isSome then s.sweep codes else s

/-- SEAT_TIMER_EXPIRY (R26). -/
def execSeatTimerExpiry (p : Pole) (s : State) : Host.Outcome State Fault Refusal := s.act fun s => s.seatExpired p

/-- GAP_TIMER_EXPIRY (R31). -/
def execGapTimerExpiry (s : State) : Host.Outcome State Fault Refusal := s.act State.gapExpired

/-- LOWERING_TIMER_EXPIRY (R28). -/
def execLoweringTimerExpiry (s : State) : Host.Outcome State Fault Refusal := s.act State.loweringExpired

/-- WINDOW_EXPIRY (R64). -/
def execWindowExpiry (s : State) : Host.Outcome State Fault Refusal := s.act State.windowExpired

/-- FRAME_EXPIRY (R73). -/
def execFrameExpiry (s : State) : Host.Outcome State Fault Refusal :=
  s.act fun s => if s.allot.frameTimer.isRunning then s.expireFrame else s

/-- RECLOSE_EXPIRY: the timer stops; nothing is modified or published (R91). -/
def execRecloseExpiry (s : State) : Host.Outcome State Fault Refusal :=
  s.act fun s =>
    if s.allot.reclose.isRunning then { s with allot := { s.allot with reclose := .stopped } } else s

/-- INRUSH_EXPIRY (R129). -/
def execInrushExpiry (i : Slot) (s : State) : Host.Outcome State Fault Refusal :=
  s.act fun s =>
    s.auxEvent i (fun r => r.state == .starting && r.inrush.isRunning) fun r => s.aux.inrushExpired i r

/-- ON_TIMER_EXPIRY: the on-timer is set expired (R130). -/
def execOnTimerExpiry (i : Slot) (s : State) : Host.Outcome State Fault Refusal :=
  s.act fun s =>
    s.auxEvent i (fun r => r.onTimer.isRunning) fun r => s.aux.put i { r with onTimer := .expired }

/-- RUN_TIMER_EXPIRY: a TIMED record stops itself, its want off (R131). -/
def execRunTimerExpiry (i : Slot) (s : State) : Host.Outcome State Fault Refusal :=
  s.act fun s =>
    s.auxEvent i (fun r => r.state == .running && r.runTimer.isRunning) fun r => s.aux.stopTo i r .cooldown false

/-- OFF_INHIBIT_EXPIRY: the record leaves COOLDOWN or SHED (R132). -/
def execOffInhibitExpiry (i : Slot) (s : State) : Host.Outcome State Fault Refusal :=
  s.act fun s => s.auxEvent i (fun r => r.offInhibit.isRunning) fun r => s.aux.offExit i r

/-- STALL_TIMER_EXPIRY (R135). -/
def execStallTimerExpiry (s : State) : Host.Outcome State Fault Refusal := s.act State.stallExpired

/-- SAVE_COMPLETION (R164). -/
def execSaveCompletion (agrees : Bool) (s : State) : Host.Outcome State Fault Refusal :=
  s.act fun s => s.saveCompleted agrees

end Sys2Proof.Machine
end

