-- ==== Sys2Proof/WellFormed.lean ====
section
/-! DEFINITION. When a command is one that the part's inputs can present: the checks that the types of Syntax.lean do
not already make. A command that fails one is still given a meaning (none of them stops the block). -/
namespace Sys2Proof

/-- The kind bytes that name a request (the table of R181). -/
def requestKinds : List Byte :=
  [0x01, 0x02, 0x03, 0x04, 0x05, 0x06, 0x07, 0x08, 0x09, 0x0A, 0x0B, 0x10, 0x18, 0x19, 0x20, 0x21, 0x22, 0x23, 0x24,
   0x25, 0x26, 0x27, 0x28, 0x29, 0x2A, 0x2B, 0x2C, 0x2D, 0x2E, 0x2F, 0x30, 0x31, 0x32, 0x33, 0x34, 0x35]

/-- An UNKNOWN_REQUEST's kind byte names no request (R172). -/
def kindUnnamed (kind : Byte) : Bool := !requestKinds.contains kind

/-- A SECTION_WRITE frame carries one to four entries; another number is a bad length (R58, R181). -/
def entryCountGood (entries : List SectionFields) : Bool := 1 ≤ entries.length && entries.length ≤ 4

/-- The command is one the part's inputs can present. -/
def Instr.wellFormed : Instr → Bool
  | .unknownRequest _ _ kind => kindUnnamed kind
  | .sectionWrite _ _ entries => entryCountGood entries
  | _ => true

end Sys2Proof
end

