-- ==== Sys2Proof/Decode.lean ====
section
/-! DEFINITION. The layouts of section 12.8: from the body of a complete request frame to the request it carries, total on
any bytes, and back; the check byte; and the table's own words, of which there are none. -/
namespace Sys2Proof

/-- Two bytes of a multi-byte field, least significant first (R181). -/
def halfOf (lo hi : Byte) : Half := hi ++ lo

/-- The bytes of a two-byte field, least significant first (R181). -/
def halfBytes (h : Half) : List Byte := [h.extractLsb' 0 8, h.extractLsb' 8 8]

/-- Why the body of a complete frame carries no request, or the request it carries (R172). -/
inductive BodyReading where
  /-- The kind byte names no request. -/
  | unknown (kind tag : Byte)
  /-- The body length does not match the kind. -/
  | badLength (kind tag : Byte)
  /-- A request to be taken by its owning block. -/
  | request (i : Instr)
  deriving DecidableEq, Repr

/-- A payload of no bytes. -/
def payload0 (i : Instr) : List Byte → Option Instr
  | [] => some i
  | _ => none

/-- A payload of one byte. -/
def payload1 (f : Byte → Instr) : List Byte → Option Instr
  | [a] => some (f a)
  | _ => none

/-- A payload of two bytes. -/
def payload2 (f : Byte → Byte → Instr) : List Byte → Option Instr
  | [a, b] => some (f a b)
  | _ => none

/-- A payload of one two-byte field. -/
def payloadHalf (f : Half → Instr) : List Byte → Option Instr
  | [a, b] => some (f (halfOf a b))
  | _ => none

/-- The entries of a SECTION_WRITE, nine bytes each (R181). -/
def sectionEntriesOf : List Byte → Option (List SectionFields)
  | [] => some []
  | i0 :: i1 :: f0 :: f1 :: r0 :: r1 :: permitted :: o0 :: o1 :: rest =>
    (sectionEntriesOf rest).map (⟨halfOf i0 i1, halfOf f0 f1, halfOf r0 r1, permitted, halfOf o0 o1⟩ :: ·)
  | _ => none

/-- A SECTION_WRITE's payload: one to four entries (R58, R181). -/
def payloadSections (f : List SectionFields → Instr) (bytes : List Byte) : Option Instr :=
  match sectionEntriesOf bytes with
  | some entries => if entryCountGood entries then some (f entries) else none
  | none => none

/-- An AUX_WRITE's payload, sixteen bytes (R181). -/
def payloadAux (f : Byte → AuxFields → Instr) : List Byte → Option Instr
  | [slot, tier, mode, r0, r1, i0, i1, t0, t1, n0, n1, o0, o1, u0, u1, again] =>
    some (f slot ⟨tier, mode, halfOf r0 r1, halfOf i0 i1, halfOf t0 t1, halfOf n0 n1, halfOf o0 o1, halfOf u0 u1, again⟩)
  | _ => none

/-- The request of a kind byte and a payload, where the length matches the kind (the table of R181). -/
def requestOf (p : PortId) (tag : Byte) (kind : Nat) (payload : List Byte) : Option Instr :=
  match kind with
  | 0x01 => payload0 (.readAllotment p tag) payload
  | 0x02 => payload0 (.readContact p tag) payload
  | 0x03 => payload1 (.readAlarms p tag) payload
  | 0x04 => payload1 (.readHistory p tag) payload
  | 0x05 => payload1 (.readFaults p tag) payload
  | 0x06 => payload1 (.readAux p tag) payload
  | 0x07 => payload1 (.readSection p tag) payload
  | 0x08 => payload0 (.readMeasure p tag) payload
  | 0x09 => payloadHalf (.readItem p tag) payload
  | 0x0A => payload2 (.portStatus p tag) payload
  | 0x0B => payload0 (.poll p tag) payload
  | 0x10 =>
    match payload with
    | [mode, m0, m1] => some (.demand p tag mode (halfOf m0 m1))
    | _ => none
  | 0x18 => payload1 (.auxStart p tag) payload
  | 0x19 => payload1 (.auxStop p tag) payload
  | 0x20 =>
    match payload with
    | [i0, i1, v0, v1] => some (.setItem p tag (halfOf i0 i1) (halfOf v0 v1))
    | _ => none
  | 0x21 => payloadAux (.auxWrite p tag) payload
  | 0x22 => payload1 (.auxRemove p tag) payload
  | 0x23 => payloadSections (.sectionWrite p tag) payload
  | 0x24 => payload0 (.sectionErase p tag) payload
  | 0x25 => payloadHalf (.sectionSet p tag) payload
  | 0x26 => payloadHalf (.sectionAhead p tag) payload
  | 0x27 =>
    match payload with
    | [kind, mask, enable] => some (.routeWrite p tag kind mask enable)
    | _ => none
  | 0x28 => payloadHalf (.ackAlarm p tag) payload
  | 0x29 => payload0 (.clearHistory p tag) payload
  | 0x2A => payload1 (.setHistoryPolicy p tag) payload
  | 0x2B => payload1 (.clearFault p tag) payload
  | 0x2C => payload2 (.raiseFault p tag) payload
  | 0x2D => payload0 (.clearFlags p tag) payload
  | 0x2E => payload1 (.mode p tag) payload
  | 0x2F => payload1 (.check p tag) payload
  | 0x30 => payload0 (.save p tag) payload
  | 0x31 => payload0 (.reset p tag) payload
  | 0x32 => payload0 (.lower p tag) payload
  | 0x33 => payload0 (.raise p tag) payload
  | 0x34 => payload1 (.battery p tag) payload
  | 0x35 => payload1 (.tractionInhibit p tag) payload
  | _ => none

/-- Read the body of a complete frame (R171, R172, R181); a body has at least its kind byte and its tag. -/
def readBody (p : PortId) : List Byte → BodyReading
  | kind :: tag :: payload =>
    if kindUnnamed kind then .unknown kind tag
    else
      match requestOf p tag kind.toNat payload with
      | some i => .request i
      | none => .badLength kind tag
  | kind :: [] => .badLength kind 0
  | [] => .badLength 0 0

/-- The bytes of one entry of a SECTION_WRITE (R181). -/
def SectionFields.bytes (e : SectionFields) : List Byte :=
  halfBytes e.id ++ halfBytes e.iFeed ++ halfBytes e.iRgmax ++ [e.permitted] ++ halfBytes e.override

/-- The bytes of a configured part (R181). -/
def AuxFields.bytes (a : AuxFields) : List Byte :=
  [a.tier, a.mode] ++ halfBytes a.iRun ++ halfBytes a.iIn ++ halfBytes a.tIn ++ halfBytes a.tOnMin ++
    halfBytes a.tOffMin ++ halfBytes a.tRun ++ [a.autoRestart]

/-- The port and the frame body of a request (kind, tag, payload); none for the commands that are no request
(R181). -/
def bodyOf : Instr → Option (PortId × List Byte)
  | .readAllotment p t => some (p, [0x01, t])
  | .readContact p t => some (p, [0x02, t])
  | .readAlarms p t a => some (p, [0x03, t, a])
  | .readHistory p t a => some (p, [0x04, t, a])
  | .readFaults p t a => some (p, [0x05, t, a])
  | .readAux p t a => some (p, [0x06, t, a])
  | .readSection p t a => some (p, [0x07, t, a])
  | .readMeasure p t => some (p, [0x08, t])
  | .readItem p t i => some (p, [0x09, t] ++ halfBytes i)
  | .portStatus p t a c => some (p, [0x0A, t, a, c])
  | .poll p t => some (p, [0x0B, t])
  | .demand p t m a => some (p, [0x10, t, m] ++ halfBytes a)
  | .auxStart p t a => some (p, [0x18, t, a])
  | .auxStop p t a => some (p, [0x19, t, a])
  | .setItem p t i v => some (p, [0x20, t] ++ halfBytes i ++ halfBytes v)
  | .auxWrite p t a f => some (p, [0x21, t, a] ++ f.bytes)
  | .auxRemove p t a => some (p, [0x22, t, a])
  | .sectionWrite p t es => some (p, [0x23, t] ++ es.flatMap SectionFields.bytes)
  | .sectionErase p t => some (p, [0x24, t])
  | .sectionSet p t i => some (p, [0x25, t] ++ halfBytes i)
  | .sectionAhead p t i => some (p, [0x26, t] ++ halfBytes i)
  | .routeWrite p t k m e => some (p, [0x27, t, k, m, e])
  | .ackAlarm p t n => some (p, [0x28, t] ++ halfBytes n)
  | .clearHistory p t => some (p, [0x29, t])
  | .setHistoryPolicy p t a => some (p, [0x2A, t, a])
  | .clearFault p t k => some (p, [0x2B, t, k])
  | .raiseFault p t n c => some (p, [0x2C, t, n, c])
  | .clearFlags p t => some (p, [0x2D, t])
  | .mode p t a => some (p, [0x2E, t, a])
  | .check p t a => some (p, [0x2F, t, a])
  | .save p t => some (p, [0x30, t])
  | .reset p t => some (p, [0x31, t])
  | .lower p t => some (p, [0x32, t])
  | .raise p t => some (p, [0x33, t])
  | .battery p t a => some (p, [0x34, t, a])
  | .tractionInhibit p t a => some (p, [0x35, t, a])
  | _ => none

/-- The sum, modulo 256, of some bytes. -/
def byteSum (bytes : List Byte) : Byte := bytes.foldl (· + ·) 0

/-- The check byte: 255 minus the sum, modulo 256, of the length byte and every body byte (R171). -/
def checkByte (body : List Byte) : Byte := 255 - byteSum (BitVec.ofNat 8 body.length :: body)

/-- The bytes of a frame: sync, length, body, check (R171, R181). -/
def frameOf (body : List Byte) : List Byte := 0xA5 :: BitVec.ofNat 8 body.length :: (body ++ [checkByte body])

/-- The command that a word of the opcode table spells: the table gives none of its rows bits. -/
def decodeTableWord (_nbits _w : Nat) : Option Instr := none

end Sys2Proof
end

