-- ==== Sys2Proof/Machine/Operands.lean ====
section
/-! DEFINITION. The operand forms of the requests: the byte values that name a state of a field (R181), and the numbers
of the named values of the items (R180). A byte that names no value is answered FORMAT by the rule of its request. -/
namespace Sys2Proof.Machine

/-- A slot number, 0..11. -/
def slotOf (b : Byte) : Option Slot := if h : b.toNat < 12 then some ⟨b.toNat, h⟩ else none

/-- A port number, 0..3. -/
def portOf (b : Byte) : Option PortId := if h : b.toNat < 4 then some ⟨b.toNat, h⟩ else none

/-- 0 no or off, 1 yes or on (R181). -/
def switchOf (b : Byte) : Option Bool :=
  match b.toNat with
  | 0 => some false
  | 1 => some true
  | _ => none

/-- DEMAND's mode: 0 MOTOR, 1 BRAKE, 2 COAST (R181). -/
def demandModeOf (b : Byte) : Option DemandMode :=
  match b.toNat with
  | 0 => some .motor
  | 1 => some .brake
  | 2 => some .coast
  | _ => none

/-- A tier: 0 ESSENTIAL, 1 COMFORT (R181). -/
def tierOf (b : Byte) : Option Tier :=
  match b.toNat with
  | 0 => some .essential
  | 1 => some .comfort
  | _ => none

/-- An auxiliary's mode: 0 CONTINUOUS, 1 TIMED (R181). -/
def auxModeOf (b : Byte) : Option AuxMode :=
  match b.toNat with
  | 0 => some .continuous
  | 1 => some .timed
  | _ => none

/-- A history policy: 0 LATEST, 1 FIRST, 2 OFF (R181). -/
def policyOf (b : Byte) : Option HistoryPolicy :=
  match b.toNat with
  | 0 => some .latest
  | 1 => some .first
  | 2 => some .off
  | _ => none

/-- RAISE_FAULT's class: 0 ADVISORY, 1 STOPPING (R181). -/
def classOf (b : Byte) : Option EventClass :=
  match b.toNat with
  | 0 => some .advisory
  | 1 => some .stopping
  | _ => none

/-- MODE's value: 0 SETUP, 1 RUN (R181). -/
def targetOf (b : Byte) : Option Mode :=
  match b.toNat with
  | 0 => some .setup
  | 1 => some .run
  | _ => none

/-- The configured part that AUX_WRITE's fields carry once their named fields are read, brought into range, and whether
any field was (R124). -/
def boundPart (f : AuxFields) (tier : Tier) (mode : AuxMode) (autoRestart : Bool) : AuxConfig × Bool :=
  let iRun := clampNat 1 200 f.iRun.toNat
  let iIn := clampNat iRun 400 f.iIn.toNat
  let tIn := clampNat 10 5000 f.tIn.toNat
  let tOnMin := clampNat 0 600 f.tOnMin.toNat
  let tOffMin := clampNat 0 600 f.tOffMin.toNat
  let tRun := match mode with
    | .timed => some (clampNat 1 3600 f.tRun.toNat)
    | .continuous => none
  ({ tier, mode, iRun, iIn, tIn, tOnMin, tOffMin, tRun, autoRestart },
    iRun != f.iRun.toNat || iIn != f.iIn.toNat || tIn != f.tIn.toNat || tOnMin != f.tOnMin.toNat ||
      tOffMin != f.tOffMin.toNat || (mode == .timed && tRun != some f.tRun.toNat))

/-- The configured part carried by AUX_WRITE, when tier, mode and auto_restart each name a value (R124). The manual does
not number the values of auto_restart; they are read as 0 no, 1 yes (DEDUCED, log 13). -/
def partOf (f : AuxFields) : Option (AuxConfig × Bool) :=
  match tierOf f.tier, auxModeOf f.mode, switchOf f.autoRestart with
  | some t, some m, some a => some (boundPart f t m a)
  | _, _, _ => none

/-! ## Numbers of the named values of items (R180) -/

/-- The number of an on or off value. -/
def switchNumber (b : Bool) : Nat := if b then 1 else 0

/-- The number of a rate. -/
def Rate.number : Rate → Nat
  | .b19200 => 0
  | .b57600 => 1
  | .b115200 => 2
  | .b230400 => 3

/-- The rate of a number. -/
def Rate.ofNumber : Nat → Option Rate
  | 0 => some .b19200
  | 1 => some .b57600
  | 2 => some .b115200
  | 3 => some .b230400
  | _ => none

/-- The number of a parity. -/
def Parity.number : Parity → Nat
  | .none => 0
  | .even => 1
  | .odd => 2

/-- The parity of a number. -/
def Parity.ofNumber : Nat → Option Parity
  | 0 => some Parity.none
  | 1 => some .even
  | 2 => some .odd
  | _ => none

/-- The number of a polarity. -/
def Polarity.number : Polarity → Nat
  | .normal => 0
  | .inverted => 1

/-- The polarity of a number. -/
def Polarity.ofNumber : Nat → Option Polarity
  | 0 => some .normal
  | 1 => some .inverted
  | _ => none

/-- The number of a duplex. -/
def Duplex.number : Duplex → Nat
  | .full => 0
  | .half => 1

/-- The duplex of a number. -/
def Duplex.ofNumber : Nat → Option Duplex
  | 0 => some .full
  | 1 => some .half
  | _ => none

/-- The number of a role. -/
def Role.number : Role → Nat
  | .cab => 0
  | .traction => 1
  | .auxiliary => 2
  | .roof => 3
  | .monitor => 4

/-- The role of a number. -/
def Role.ofNumber : Nat → Option Role
  | 0 => some .cab
  | 1 => some .traction
  | 2 => some .auxiliary
  | 3 => some .roof
  | 4 => some .monitor
  | _ => none

/-- The number of a filter mode. -/
def FilterMode.number : FilterMode → Nat
  | .filtered => 0
  | .direct => 1

/-- The filter mode of a number. -/
def FilterMode.ofNumber : Nat → Option FilterMode
  | 0 => some .filtered
  | 1 => some .direct
  | _ => none

/-- The switch of a number. -/
def switchOfNumber : Nat → Option Bool
  | 0 => some false
  | 1 => some true
  | _ => none

/-- The number of a reset cause (item 120). -/
def ResetCause.number : ResetCause → Nat
  | .powerOn => 0
  | .pin => 1
  | .supplyLow => 2
  | .link => 3

/-- The number of an image state (item 121). -/
def ImageState.number : ImageState → Nat
  | .blank => 0
  | .valid => 1
  | .corrupt => 2
  | .writing => 3

/-- The byte value of a reply code (R173). -/
def ReplyCode.value : ReplyCode → Byte
  | .ok => 0
  | .clamped => 1
  | .already => 2
  | .deferred => 3
  | .replaced => 4
  | .roleRefused => 5
  | .modeRefused => 6
  | .busy => 7
  | .noSuch => 8
  | .interlock => 9
  | .format => 10
  | .unknown => 11
  | .planInvalid => 12
  | .abortedAt => 13

/-- The largest member of 1, 2, 4, 8 not above a value, and 1 for a value below 1 (R36). -/
def nearestDecimation (n : Nat) : Nat := if 8 ≤ n then 8 else if 4 ≤ n then 4 else if 2 ≤ n then 2 else 1

end Sys2Proof.Machine
end

