-- ==== Sys2Proof/Machine/Auxiliaries.lean ====
section
/-! DEFINITION. The requests that the auxiliary sequencer takes: AUX_START (R127), AUX_STOP (R128), AUX_WRITE (R124) and
AUX_REMOVE (R126). -/
namespace Sys2Proof.Machine

/-- The present record that a slot byte names, with its slot; none for a slot above 11 or an absent record (R126,
R127). -/
def Sequencer.named (a : Sequencer) (slot : Byte) : Option (Slot × AuxRecord) :=
  (slotOf slot).bind fun i => (a.table[i]).map fun r => (i, r)

/-- AUX_START on a present record, by its state (R127). -/
def State.startAux (s : State) (i : Slot) (r : AuxRecord) : Answer :=
  let wanted : AuxRecord := { r with want := true }
  match r.state with
  | .idle => (s.setAux ((s.aux.put i wanted.toQueued).join i)).ok
  | .cooldown => if r.want then s.refuse .already else { state := s.setAux (s.aux.put i wanted), code := .deferred }
  | .shed =>
    if !r.config.autoRestart then s.refuse .busy
    else if r.want then s.refuse .already
    else { state := s.setAux (s.aux.put i wanted), code := .deferred }
  | .queued | .starting | .running => s.refuse .already

/-- AUX_STOP on a present record, by its state (R128). -/
def State.stopAux (s : State) (i : Slot) (r : AuxRecord) : Answer :=
  let unwanted : AuxRecord := { r with want := false }
  match r.state with
  | .idle => s.refuse .already
  | .cooldown | .shed => if r.want then (s.setAux (s.aux.put i unwanted)).ok else s.refuse .already
  | .queued => (s.setAux ((s.aux.leave i).put i (r.toIdle false))).ok
  | .starting | .running => (s.setAux (s.aux.stopTo i r .cooldown false)).ok

/-- AUX_START's answer (R127). -/
def answerAuxStart (slot : Byte) (s : State) : Answer :=
  match s.aux.named slot with
  | some (i, r) => s.startAux i r
  | none => s.refuse .noSuch

/-- AUX_STOP's answer (R128). -/
def answerAuxStop (slot : Byte) (s : State) : Answer :=
  match s.aux.named slot with
  | some (i, r) => s.stopAux i r
  | none => s.refuse .noSuch

/-- A record that has just become present (R124). -/
def AuxRecord.fresh (c : AuxConfig) : AuxRecord :=
  { config := c, state := .idle, want := false, inrush := .stopped, onTimer := .stopped, runTimer := .stopped
    offInhibit := .stopped, stamp := none, stalled := false, pendingPart := none }

/-- A configured part is applied to its slot by the record's state (R124). -/
def State.writeAux (s : State) (i : Slot) (part : AuxConfig) (clamped : Bool) : Answer :=
  let code : ReplyCode := if clamped then .clamped else .ok
  match s.aux.table[i] with
  | none => { state := s.setAux (s.aux.put i (.fresh part)), code := code }
  | some r =>
    if r.state = .idle then { state := s.setAux (s.aux.put i { r with config := part }), code := code }
    else { state := s.setAux (s.aux.put i { r with pendingPart := some part }), code := .deferred }

/-- AUX_WRITE's answer, by its checks in their order (R124). -/
def answerAuxWrite (slot : Byte) (fields : AuxFields) (s : State) : Answer :=
  match slotOf slot with
  | none => s.refuse .noSuch
  | some i =>
    if s.router.mode = .halt then s.refuse .modeRefused
    else
      match partOf fields with
      | none => s.refuse .format
      | some (part, clamped) => s.writeAux i part clamped

/-- AUX_REMOVE's answer (R126). -/
def answerAuxRemove (slot : Byte) (s : State) : Answer :=
  match s.aux.named slot with
  | none => s.refuse .noSuch
  | some (i, r) =>
    if s.router.mode = .halt then s.refuse .modeRefused
    else if r.state = .idle then (s.setAux { s.aux with table := s.aux.table.set i none }).ok
    else s.refuse .busy

/-- AUX_START (R127). -/
def execAuxStart (p : PortId) (tag slot : Byte) (s : State) : Host.Outcome State Fault Refusal :=
  s.actRequest p 0x18 tag (answerAuxStart slot)

/-- AUX_STOP (R128). -/
def execAuxStop (p : PortId) (tag slot : Byte) (s : State) : Host.Outcome State Fault Refusal :=
  s.actRequest p 0x19 tag (answerAuxStop slot)

/-- AUX_WRITE (R124). -/
def execAuxWrite (p : PortId) (tag slot : Byte) (fields : AuxFields) (s : State) :
    Host.Outcome State Fault Refusal :=
  s.actRequest p 0x21 tag (answerAuxWrite slot fields)

/-- AUX_REMOVE (R126). -/
def execAuxRemove (p : PortId) (tag slot : Byte) (s : State) : Host.Outcome State Fault Refusal :=
  s.actRequest p 0x22 tag (answerAuxRemove slot)

end Sys2Proof.Machine
end

