-- ==== Sys2Proof/Machine/Cab.lean ====
section
/-! DEFINITION. The cab's requests to the contact monitor, the alarm unit and the event router: LOWER (R28), RAISE (R29),
CLEAR_FLAGS (R23), ACK_ALARM (R44), CLEAR_HISTORY (R52), SET_HISTORY_POLICY (R51), ROUTE_WRITE (R151), CLEAR_FAULT (R154)
and RAISE_FAULT (R155). -/
namespace Sys2Proof.Machine

/-- LOWER's answer (R28). -/
def answerLower (s : State) : Answer :=
  { state := s.lowerPoles, code := if s.contact.canLower then .ok else .already }

/-- RAISE is taken: both poles STOWED and the raise interlock released (R29, R46). -/
def State.canRaise (s : State) : Bool := (s.contact.poles.all fun r => r.state == .stowed) && !s.alarm.interlock

/-- RAISE's answer (R29). -/
def answerRaise (s : State) : Answer :=
  if s.canRaise then (s.notify (.poleOrder .raise)).ok else s.refuse .interlock

/-- CLEAR_FLAGS' answer (R23). -/
def answerClearFlags (s : State) : Answer :=
  ({ s with contact :=
      { s.contact with monitors := s.contact.monitors.map fun m => { m with detected := false } } } : State).ok

/-- ACK_ALARM's answer to a port (R44). -/
def answerAckAlarm (p : PortId) (number : Half) (s : State) : Answer :=
  match s.alarm.active.find? fun e => e.number = number with
  | none => s.refuse .noSuch
  | some e =>
    match e.state with
    | .activeUnack => (s.changeAlarms (s.alarm.replace { e with state := .activeAck, ackPort := some p })).ok
    | .activeAck => s.refuse .already
    | .goneUnack => (s.changeAlarms (s.alarm.remove e.key)).ok

/-- CLEAR_HISTORY's answer (R52). -/
def answerClearHistory (s : State) : Answer :=
  ({ s with alarm := { s.alarm with history := [], historyFull := false } } : State).ok

/-- SET_HISTORY_POLICY's answer: the mode is checked before the value (R51). -/
def answerSetHistoryPolicy (policy : Byte) (s : State) : Answer :=
  if s.router.mode = .halt then s.refuse .modeRefused
  else
    match policyOf policy with
    | some q => ({ s with alarm := { s.alarm with policy := q } } : State).ok
    | none => s.refuse .format

/-- A ROUTE_WRITE's mask, where its bits 4 to 7 are zero (R181). -/
def maskOf (b : Byte) : Option (BitVec 4) := if b.toNat < 16 then some (b.setWidth 4) else none

/-- ROUTE_WRITE's answer, by its checks in their order (R151). -/
def answerRouteWrite (kind mask enable : Byte) (s : State) : Answer :=
  match EventKind.ofNumber kind.toNat with
  | none => s.refuse .noSuch
  | some k =>
    if s.router.mode = .halt then s.refuse .modeRefused
    else
      match maskOf mask, switchOf enable with
      | some m, some on =>
        let stored := on && k.action.isSome
        { state :=
            { s with router := { s.router with routing := s.router.routing.set k.index ⟨m, stored⟩ } }
          code := if stored = on then .ok else .clamped }
      | _, _ => s.refuse .format

/-- CLEAR_FAULT's answer, by its conditions in their order (R154). -/
def answerClearFault (kind : Byte) (s : State) : Answer :=
  match EventKind.ofNumber kind.toNat with
  | none => s.refuse .noSuch
  | some k =>
    let f := s.router.faults[k.index]
    let cleared : State :=
      { s with router := { s.router with faults := s.router.faults.set k.index { f with latch := .none } } }
    match f.latch with
    | .none => s.refuse .already
    | .advisory => cleared.ok
    | .stopping => if s.router.mode = .setup then cleared.ok else s.refuse .modeRefused

/-- RAISE_FAULT's answer (R155). -/
def answerRaiseFault (number cls : Byte) (s : State) : Answer :=
  match classOf cls with
  | none => s.refuse .format
  | some c =>
    if inRange 1 99 number.toNat then (s.handleEvent ⟨.userFault, c, .user number.toNat⟩).ok else s.refuse .format

/-- LOWER (R28). -/
def execLower (p : PortId) (tag : Byte) (s : State) : Host.Outcome State Fault Refusal :=
  s.actRequest p 0x32 tag answerLower

/-- RAISE (R29). -/
def execRaise (p : PortId) (tag : Byte) (s : State) : Host.Outcome State Fault Refusal :=
  s.actRequest p 0x33 tag answerRaise

/-- CLEAR_FLAGS (R23). -/
def execClearFlags (p : PortId) (tag : Byte) (s : State) : Host.Outcome State Fault Refusal :=
  s.actRequest p 0x2D tag answerClearFlags

/-- ACK_ALARM (R44). -/
def execAckAlarm (p : PortId) (tag : Byte) (number : Half) (s : State) : Host.Outcome State Fault Refusal :=
  s.actRequest p 0x28 tag (answerAckAlarm p number)

/-- CLEAR_HISTORY (R52). -/
def execClearHistory (p : PortId) (tag : Byte) (s : State) : Host.Outcome State Fault Refusal :=
  s.actRequest p 0x29 tag answerClearHistory

/-- SET_HISTORY_POLICY (R51). -/
def execSetHistoryPolicy (p : PortId) (tag policy : Byte) (s : State) : Host.Outcome State Fault Refusal :=
  s.actRequest p 0x2A tag (answerSetHistoryPolicy policy)

/-- ROUTE_WRITE (R151). -/
def execRouteWrite (p : PortId) (tag kind mask enable : Byte) (s : State) : Host.Outcome State Fault Refusal :=
  s.actRequest p 0x27 tag (answerRouteWrite kind mask enable)

/-- CLEAR_FAULT (R154). -/
def execClearFault (p : PortId) (tag kind : Byte) (s : State) : Host.Outcome State Fault Refusal :=
  s.actRequest p 0x2B tag (answerClearFault kind)

/-- RAISE_FAULT (R155). -/
def execRaiseFault (p : PortId) (tag number cls : Byte) (s : State) : Host.Outcome State Fault Refusal :=
  s.actRequest p 0x2C tag (answerRaiseFault number cls)

end Sys2Proof.Machine
end

