-- ==== Sys2Proof/Machine/Checking.lean ====
section
/-! DEFINITION. The plan check (R159) and the content of CHECK's reply (R160). -/
namespace Sys2Proof.Machine

/-- The ports of a role, in ascending order. -/
def State.portsOf (s : State) (role : Role) : List PortId := (List.finRange 4).filter fun p => s.role p = role

/-- A finding without subject, where its condition holds. -/
def findingIf (cls : FindingClass) (code : Nat) (holds : Bool) : List Finding :=
  if holds then [⟨cls, code, none⟩] else []

/-- One class A finding for each port of a list after its first. -/
def findingPerExtra (code : Nat) (ports : List PortId) : List Finding :=
  (ports.drop 1).map fun p => ⟨.a, code, some p⟩

/-- The sum of I_run of the present ESSENTIAL records, by their configured parts in force (R159, code 11). -/
def Sequencer.essentialRunning (a : Sequencer) : Nat :=
  slots.foldl (fun n i => match a.table[i] with
    | some r => if r.config.tier = .essential then n + r.config.iRun else n
    | none => n) 0

/-- The class A findings, by code and then by subject (R159). -/
def State.findingsA (s : State) : List Finding :=
  let l := s.allot.line
  let b := s.allot.battery
  let c := s.contact.settings
  findingIf .a 1 (decide (l.vFloor ≥ l.vKnee)) ++
    findingIf .a 2 (decide (b.vOvk ≥ b.vMax)) ++
    findingIf .a 3 (decide (b.vBatMin ≥ b.vBatLow)) ++
    findingIf .a 4 (decide (b.vChgTaper ≥ b.vBatFull)) ++
    findingIf .a 5 (decide (c.elevMin ≥ c.elevMax)) ++
    findingIf .a 6 (decide (c.vLoss ≥ l.vFloor)) ++
    findingIf .a 7 (s.portsOf .cab).isEmpty ++ findingPerExtra 7 (s.portsOf .cab) ++
    findingPerExtra 8 (s.portsOf .traction) ++
    findingPerExtra 9 (s.portsOf .auxiliary) ++
    findingIf .a 10 (s.portsOf .traction).isEmpty

/-- The class B findings (R159). -/
def State.findingsB (s : State) : List Finding :=
  let d := s.allot.demandSettings
  findingIf .b 11 (decide (s.allot.battery.iBatMax < s.aux.essentialRunning)) ++
    findingIf .b 12 (s.portsOf .roof).isEmpty ++
    findingIf .b 13 (decide (d.holdFrames ≥ d.cutoffFrames)) ++
    findingIf .b 14 (decide (d.odWarn ≥ d.odStop))

/-- The class C findings (R159). -/
def State.findingsC (s : State) : List Finding :=
  findingIf .c 15 s.sections.table.isEmpty ++ findingIf .c 16 (s.alarm.policy == .off)

/-- CHECK's content at a level (R160). -/
def State.checkReport (s : State) (level : Nat) : CheckReport :=
  let a := s.findingsA
  let b := s.findingsB
  let c := s.findingsC
  { countA := a.length, countB := b.length, countC := c.length
    listed := (match level with
      | 0 => a ++ b ++ c
      | 1 => a ++ b
      | _ => a).take 16 }

end Sys2Proof.Machine
end

