-- ==== Sys2Proof/Machine/Items.lean ====
section
/-! DEFINITION. The items of SET_ITEM and READ_ITEM (R180): their numbers, the values each takes, the modes it is written
in, and how each is read and stored. -/
namespace Sys2Proof.Machine

/-- A numeric setting held as one number (the range settings of R180). -/
inductive NumericItem where
  | offset (c : Channel) | gain (c : Channel)
  | vLoss | hLoss | vOv | hOv | latLimit | elevMin | elevMax | hAng
  | stowLevel | seatTime | gapMax | lowerTimeMax
  | iFeedDefault | iRgmaxDefault | expectWindow
  | vFloor | vKnee | sUp | rCom | tRc
  | vBatMin | vBatLow | iBatMax | iBatChg | vChgTaper | vBatFull | vOvk | vMax
  | holdFrames | staleDecay | cutoffFrames | tol | odWarn | odStop
  | startWaitMax | shedFrames
  deriving DecidableEq, Repr

/-- An item of the store that is read and not written (R169). -/
inductive ReadOnlyItem where
  | resetCause
  | imageState
  | saveInFlight
  deriving DecidableEq, Repr

/-- An item (R180). -/
inductive Item where
  | numeric (i : NumericItem)
  | sweepPeriod
  | framePeriod
  | enable (m : MonitorId)
  | filterMode (m : MonitorId)
  | decimation (m : MonitorId)
  | boost
  | charge
  | autoRun
  | rate (p : PortId)
  | parity (p : PortId)
  | polarity (p : PortId)
  | duplex (p : PortId)
  | role (p : PortId)
  | readOnly (i : ReadOnlyItem)
  deriving DecidableEq, Repr

/-- Items of consecutive numbers. -/
def numbered (first : Nat) (items : List Item) : List (Nat × Item) := items.mapIdx fun k i => (first + k, i)

/-- The four monitors in the order of the items (R180). -/
def monitorOrder : List MonitorId := [.loss, .anglePos, .angleNeg, .overvolt]

/-- The items with their numbers, group by group as R180 lists them. -/
def itemTable : List (Nat × Item) :=
  numbered 1 ((List.finRange 8).map fun c => .numeric (.offset c)) ++
  numbered 9 ((List.finRange 8).map fun c => .numeric (.gain c)) ++
  numbered 17 [.sweepPeriod] ++
  numbered 20 [.numeric .vLoss, .numeric .hLoss, .numeric .vOv, .numeric .hOv, .numeric .latLimit,
    .numeric .elevMin, .numeric .elevMax, .numeric .hAng] ++
  numbered 28 (monitorOrder.map .enable) ++
  numbered 32 (monitorOrder.map .filterMode) ++
  numbered 36 (monitorOrder.map .decimation) ++
  numbered 40 [.numeric .stowLevel, .numeric .seatTime, .numeric .gapMax, .numeric .lowerTimeMax] ++
  numbered 48 [.numeric .iFeedDefault, .numeric .iRgmaxDefault, .numeric .expectWindow] ++
  numbered 56 [.framePeriod, .numeric .vFloor, .numeric .vKnee, .numeric .sUp, .numeric .rCom, .numeric .tRc] ++
  numbered 64 [.numeric .vBatMin, .numeric .vBatLow, .numeric .iBatMax, .numeric .iBatChg, .numeric .vChgTaper,
    .numeric .vBatFull, .numeric .vOvk, .numeric .vMax, .boost, .charge] ++
  numbered 80 [.numeric .holdFrames, .numeric .staleDecay, .numeric .cutoffFrames, .numeric .tol, .numeric .odWarn,
    .numeric .odStop] ++
  numbered 88 [.numeric .startWaitMax, .numeric .shedFrames] ++
  numbered 96 [.autoRun] ++
  numbered 100 ((List.finRange 4).map .rate) ++
  numbered 104 ((List.finRange 4).map .parity) ++
  numbered 108 ((List.finRange 4).map .polarity) ++
  numbered 112 ((List.finRange 4).map .duplex) ++
  numbered 116 ((List.finRange 4).map .role) ++
  numbered 120 [.readOnly .resetCause, .readOnly .imageState, .readOnly .saveInFlight]

/-- The item of a number (R180). -/
def Item.ofNumber (n : Nat) : Option Item := itemTable.lookup n

/-! ## Numeric settings -/

/-- The range of a numeric setting (R2, sections 2.6, 4.7, 5.6, 6.7, 7.5, 8.8, 9.6). -/
def NumericItem.range : NumericItem → Nat × Nat
  | .offset _ => (0, 4095)
  | .gain _ => (1, 65535)
  | .vLoss => (100, 500)
  | .hLoss => (0, 100)
  | .vOv => (700, 1000)
  | .hOv => (0, 100)
  | .latLimit => (100, 550)
  | .elevMin => (50, 400)
  | .elevMax => (300, 850)
  | .hAng => (0, 100)
  | .stowLevel => (0, 100)
  | .seatTime => (50, 2000)
  | .gapMax => (100, 5000)
  | .lowerTimeMax => (1000, 20000)
  | .iFeedDefault => (0, 1000)
  | .iRgmaxDefault => (0, 800)
  | .expectWindow => (500, 10000)
  | .vFloor => (200, 700)
  | .vKnee => (300, 900)
  | .sUp => (1, 800)
  | .rCom => (0, 200)
  | .tRc => (0, 500)
  | .vBatMin => (300, 800)
  | .vBatLow => (300, 800)
  | .iBatMax => (0, 400)
  | .iBatChg => (0, 400)
  | .vChgTaper => (300, 900)
  | .vBatFull => (300, 900)
  | .vOvk => (600, 990)
  | .vMax => (650, 1000)
  | .holdFrames => (1, 50)
  | .staleDecay => (1, 800)
  | .cutoffFrames => (2, 500)
  | .tol => (0, 200)
  | .odWarn => (1, 50)
  | .odStop => (2, 500)
  | .startWaitMax => (1000, 60000)
  | .shedFrames => (1, 20)

/-- A numeric setting as it stands in the image's groups (R162). -/
def NumericItem.ofImage (g : Image) : NumericItem → Nat
  | .offset c => (g.calib[c]).offset
  | .gain c => (g.calib[c]).gain
  | .vLoss => g.contact.vLoss
  | .hLoss => g.contact.hLoss
  | .vOv => g.contact.vOv
  | .hOv => g.contact.hOv
  | .latLimit => g.contact.latLimit
  | .elevMin => g.contact.elevMin
  | .elevMax => g.contact.elevMax
  | .hAng => g.contact.hAng
  | .stowLevel => g.contact.stowLevel
  | .seatTime => g.contact.seatTime
  | .gapMax => g.contact.gapMax
  | .lowerTimeMax => g.contact.lowerTimeMax
  | .iFeedDefault => g.sections.iFeedDefault
  | .iRgmaxDefault => g.sections.iRgmaxDefault
  | .expectWindow => g.sections.expectWindow
  | .vFloor => g.line.vFloor
  | .vKnee => g.line.vKnee
  | .sUp => g.line.sUp
  | .rCom => g.line.rCom
  | .tRc => g.line.tRc
  | .vBatMin => g.battery.vBatMin
  | .vBatLow => g.battery.vBatLow
  | .iBatMax => g.battery.iBatMax
  | .iBatChg => g.battery.iBatChg
  | .vChgTaper => g.battery.vChgTaper
  | .vBatFull => g.battery.vBatFull
  | .vOvk => g.battery.vOvk
  | .vMax => g.battery.vMax
  | .holdFrames => g.demand.holdFrames
  | .staleDecay => g.demand.staleDecay
  | .cutoffFrames => g.demand.cutoffFrames
  | .tol => g.demand.tol
  | .odWarn => g.demand.odWarn
  | .odStop => g.demand.odStop
  | .startWaitMax => g.aux.startWaitMax
  | .shedFrames => g.aux.shedFrames

/-- Change the contact monitor's settings. -/
def State.setContactSettings (s : State) (f : ContactSettings → ContactSettings) : State :=
  { s with contact := { s.contact with settings := f s.contact.settings } }

/-- Change the settings of section 5.6. -/
def State.setLine (s : State) (f : LineSettings → LineSettings) : State :=
  { s with allot := { s.allot with line := f s.allot.line } }

/-- Change the settings of section 6.7. -/
def State.setBattery (s : State) (f : BatterySettings → BatterySettings) : State :=
  { s with allot := { s.allot with battery := f s.allot.battery } }

/-- Change the settings of section 7.5. -/
def State.setDemandSettings (s : State) (f : DemandSettings → DemandSettings) : State :=
  { s with allot := { s.allot with demandSettings := f s.allot.demandSettings } }

/-- Change the section unit's settings. -/
def State.setSectionSettings (s : State) (f : SectionSettings → SectionSettings) : State :=
  { s with sections := { s.sections with settings := f s.sections.settings } }

/-- Change the sequencer's settings. -/
def State.setAuxSettings (s : State) (f : AuxSettings → AuxSettings) : State :=
  { s with aux := { s.aux with settings := f s.aux.settings } }

/-- Change a channel's calibration record. -/
def State.setCalibration (s : State) (c : Channel) (f : Calibration → Calibration) : State :=
  { s with meas := { s.meas with calib := s.meas.calib.set c (f s.meas.calib[c]) } }

/-- A default limit written while the current section is NONE hands a limit change (R57, R67). -/
def State.handDefaultLimits (s : State) : State := if s.sections.current = none then s.handLimits else s

/-- Store an accepted value of a numeric setting, with what its chapter makes of it at once: a default limit in use is
handed on (R67), and a lowered I_bat_max lowers the battery budget in force (R100). -/
def NumericItem.store (s : State) (v : Nat) : NumericItem → State
  | .offset c => s.setCalibration c fun k => { k with offset := v }
  | .gain c => s.setCalibration c fun k => { k with gain := v }
  | .vLoss => s.setContactSettings fun c => { c with vLoss := v }
  | .hLoss => s.setContactSettings fun c => { c with hLoss := v }
  | .vOv => s.setContactSettings fun c => { c with vOv := v }
  | .hOv => s.setContactSettings fun c => { c with hOv := v }
  | .latLimit => s.setContactSettings fun c => { c with latLimit := v }
  | .elevMin => s.setContactSettings fun c => { c with elevMin := v }
  | .elevMax => s.setContactSettings fun c => { c with elevMax := v }
  | .hAng => s.setContactSettings fun c => { c with hAng := v }
  | .stowLevel => s.setContactSettings fun c => { c with stowLevel := v }
  | .seatTime => s.setContactSettings fun c => { c with seatTime := v }
  | .gapMax => s.setContactSettings fun c => { c with gapMax := v }
  | .lowerTimeMax => s.setContactSettings fun c => { c with lowerTimeMax := v }
  | .iFeedDefault => (s.setSectionSettings fun c => { c with iFeedDefault := v }).handDefaultLimits
  | .iRgmaxDefault => (s.setSectionSettings fun c => { c with iRgmaxDefault := v }).handDefaultLimits
  | .expectWindow => s.setSectionSettings fun c => { c with expectWindow := v }
  | .vFloor => s.setLine fun c => { c with vFloor := v }
  | .vKnee => s.setLine fun c => { c with vKnee := v }
  | .sUp => s.setLine fun c => { c with sUp := v }
  | .rCom => s.setLine fun c => { c with rCom := v }
  | .tRc => s.setLine fun c => { c with tRc := v }
  | .vBatMin => s.setBattery fun c => { c with vBatMin := v }
  | .vBatLow => s.setBattery fun c => { c with vBatLow := v }
  | .iBatMax => (s.setBattery fun c => { c with iBatMax := v }).takeBatteryLimit v
  | .iBatChg => s.setBattery fun c => { c with iBatChg := v }
  | .vChgTaper => s.setBattery fun c => { c with vChgTaper := v }
  | .vBatFull => s.setBattery fun c => { c with vBatFull := v }
  | .vOvk => s.setBattery fun c => { c with vOvk := v }
  | .vMax => s.setBattery fun c => { c with vMax := v }
  | .holdFrames => s.setDemandSettings fun c => { c with holdFrames := v }
  | .staleDecay => s.setDemandSettings fun c => { c with staleDecay := v }
  | .cutoffFrames => s.setDemandSettings fun c => { c with cutoffFrames := v }
  | .tol => s.setDemandSettings fun c => { c with tol := v }
  | .odWarn => s.setDemandSettings fun c => { c with odWarn := v }
  | .odStop => s.setDemandSettings fun c => { c with odStop := v }
  | .startWaitMax => s.setAuxSettings fun c => { c with startWaitMax := v }
  | .shedFrames => s.setAuxSettings fun c => { c with shedFrames := v }

/-- A numeric setting may be written in RUN as well as in SETUP (R180). -/
def NumericItem.inRun : NumericItem → Bool
  | .iFeedDefault | .iRgmaxDefault | .sUp | .rCom | .tRc | .iBatMax | .iBatChg | .holdFrames | .staleDecay
  | .cutoffFrames | .tol | .odWarn | .odStop | .startWaitMax | .shedFrames => true
  | _ => false

/-! ## The settings in force as an image -/

/-- Every setting of R162 at its most recently accepted value: what a SAVE takes as its snapshot (R163), and what
READ_ITEM reads (R180). -/
def State.settingsImage (s : State) : Image :=
  { ports := Vector.ofFn fun p => (s.ports[p]).written
    calib := s.meas.calib
    sweepPeriod := s.meas.staged.getD s.meas.period
    contact := s.contact.settings
    sections := s.sections.settings
    sectionTable := s.sections.table
    line := { s.allot.line with tF := s.allot.stagedTf.getD s.allot.line.tF }
    battery := s.allot.battery
    demand := s.allot.demandSettings
    aux := s.aux.settings
    auxTable := Vector.ofFn fun i => (s.aux.table[i]).map AuxRecord.config
    routing := s.router.routing
    policy := s.alarm.policy
    autoRun := s.store.autoRun }

/-! ## Reading and writing an item -/

/-- An item may be written in a mode (R180); a read-only item in none. -/
def Item.writableIn (i : Item) (m : Mode) : Bool :=
  match m with
  | .setup => true
  | .run =>
    match i with
    | .numeric n => n.inRun
    | .boost | .charge => true
    | _ => false
  | .halt => false

/-- The port settings an item belongs to, as a number (R180). -/
def Item.portNumber (f : PortId → PortSettings) : Item → Option Nat
  | .rate p => some (f p).rate.number
  | .parity p => some (f p).parity.number
  | .polarity p => some (f p).polarity.number
  | .duplex p => some (f p).duplex.number
  | .role p => some (f p).role.number
  | _ => none

/-- The most recently accepted value of an item (R180), or the state of the store for a read-only one (R169). -/
def Item.read (s : State) (i : Item) : Nat :=
  let g := s.settingsImage
  match i with
  | .numeric n => n.ofImage g
  | .sweepPeriod => g.sweepPeriod
  | .framePeriod => g.line.tF
  | .enable m => switchNumber (g.contact.monitors.get m).enable
  | .filterMode m => (g.contact.monitors.get m).mode.number
  | .decimation m => (g.contact.monitors.get m).decimation
  | .boost => switchNumber g.battery.boost
  | .charge => switchNumber g.battery.charge
  | .autoRun => switchNumber g.autoRun
  | .readOnly .resetCause => s.store.resetCause.number
  | .readOnly .imageState => s.store.imageState.number
  | .readOnly .saveInFlight =>
    match s.store.save with
    | none => 0
    | some v => v.elapsed + 1
  | port => (port.portNumber fun p => (s.ports[p]).written).getD 0

/-- The value in force that READ_ITEM gives beside the accepted one: for the sweep period, T_f and the port items
(R180). -/
def Item.readInForce (s : State) : Item → Option Nat
  | .sweepPeriod => some s.meas.period
  | .framePeriod => some s.allot.line.tF
  | i => i.portNumber fun p => (s.ports[p]).inForce

/-- Change a port's written settings; they reach the port at the first reset after a SAVE (R170). -/
def State.setWritten (s : State) (p : PortId) (f : PortSettings → PortSettings) : State :=
  s.setPort p { s.ports[p] with written := f (s.ports[p]).written }

/-- Change a monitor and its setting. -/
def State.setMonitor (s : State) (m : MonitorId) (f : Monitor → Monitor) (g : MonitorSetting → MonitorSetting) :
    State :=
  { s with contact :=
    { s.contact with
      monitors := s.contact.monitors.set m (f (s.contact.monitors.get m))
      settings := { s.contact.settings with
        monitors := s.contact.settings.monitors.set m (g (s.contact.settings.monitors.get m)) } } }

/-- A monitor is enabled or disabled (R19): enabling puts it in SETTLING, disabling in DISABLED with its counts at 0; the
contact state is derived anew. Writing the present value changes nothing (R21). -/
def State.setEnable (s : State) (m : MonitorId) (on : Bool) : State :=
  if (s.contact.settings.monitors.get m).enable = on then s
  else
    let changed := s.setMonitor m
      (fun k => { k with state := if on then .settling else .disabled, settling := 0, filter := 0, decimation := 0 })
      (fun c => { c with enable := on })
    changed.handOver s.contact s.allot.record.tractionTotal {}

/-- A change of filter mode or decimation returns the monitor's counts to 0 and keeps its state (R21); a write of the
present value is no change (log 17). -/
def State.setFilter (s : State) (m : MonitorId) (f : MonitorSetting → MonitorSetting) : State :=
  let old := s.contact.settings.monitors.get m
  if f old = old then s else s.setMonitor m (fun k => { k with filter := 0, decimation := 0 }) f

/-- A value stored, with the reply that says whether it was brought to a limit. -/
def storeLimited (stored carried : Nat) (store : Nat → State) : Answer :=
  { state := store stored, code := if stored = carried then .ok else .clamped }

/-- A value that must name a state of its item, FORMAT otherwise. -/
def storeNamed {α : Type} (s : State) (named : Option α) (store : α → State) : Answer :=
  match named with
  | some a => (store a).ok
  | none => s.refuse .format

/-- The item's chapter takes an accepted SET_ITEM (R180). -/
def Item.write (s : State) (v : Nat) : Item → Answer
  | .numeric n => storeLimited (clampNat n.range.1 n.range.2 v) v fun x => NumericItem.store s x n
  | .sweepPeriod => storeLimited (clampNat 1 8 v) v fun x => { s with meas := { s.meas with staged := some x } }
  | .framePeriod => storeLimited (clampNat 5 50 v) v fun x => { s with allot := { s.allot with stagedTf := some x } }
  | .enable m => storeNamed s (switchOfNumber v) fun x => s.setEnable m x
  | .filterMode m => storeNamed s (FilterMode.ofNumber v) fun x => s.setFilter m fun c => { c with mode := x }
  | .decimation m => storeLimited (nearestDecimation v) v fun x => s.setFilter m fun c => { c with decimation := x }
  | .boost => storeNamed s (switchOfNumber v) fun x => s.setBattery fun c => { c with boost := x }
  | .charge => storeNamed s (switchOfNumber v) fun x => s.setBattery fun c => { c with charge := x }
  | .autoRun => storeNamed s (switchOfNumber v) fun x => { s with store := { s.store with autoRun := x } }
  | .rate p => storeNamed s (Rate.ofNumber v) fun x => s.setWritten p fun c => { c with rate := x }
  | .parity p => storeNamed s (Parity.ofNumber v) fun x => s.setWritten p fun c => { c with parity := x }
  | .polarity p => storeNamed s (Polarity.ofNumber v) fun x => s.setWritten p fun c => { c with polarity := x }
  | .duplex p => storeNamed s (Duplex.ofNumber v) fun x => s.setWritten p fun c => { c with duplex := x }
  | .role p => storeNamed s (Role.ofNumber v) fun x => s.setWritten p fun c => { c with role := x }
  | .readOnly _ => s.refuse .noSuch

/-- An item is read-only (R180). -/
def Item.isReadOnly : Item → Bool
  | .readOnly _ => true
  | _ => false

end Sys2Proof.Machine
end

