-- ==== Sys2Proof/Machine/Configuring.lean ====
section
/-! DEFINITION. The requests that configure the part and move its mode: SET_ITEM (R180), SAVE (R163), RESET (R166), MODE
(R158) and CHECK (R160). -/
namespace Sys2Proof.Machine

/-- SET_ITEM's answer, by its checks in their order (R180). -/
def answerSetItem (item value : Half) (s : State) : Answer :=
  match Item.ofNumber item.toNat with
  | none => s.refuse .noSuch
  | some i =>
    if i.isReadOnly then s.refuse .noSuch
    else if i.writableIn s.router.mode then i.write s value.toNat
    else s.refuse .modeRefused

/-- SAVE's answer: the snapshot is taken and the rewrite of the image begins (R163). -/
def answerSave (s : State) : Answer :=
  if s.router.mode ≠ .setup then s.refuse .modeRefused
  else if s.store.save.isSome then s.refuse .busy
  else
    ({ s with store :=
        { s.store with
          save := some { snapshot := s.settingsImage, elapsed := 0 }, imageState := .writing, nv := .torn } } :
      State).ok

/-- A save in flight is ended at once by a RESET that is taken: it is abandoned with the image left corrupt, and no
completion follows (R163, R166). What the image state reads until the reset begins is not stated; the model takes CORRUPT,
as the image is (DESIGN CHOICE, log 31, unsafe). -/
def State.abandonSave (s : State) : State :=
  match s.store.save with
  | none => s
  | some _ => { s with store := { s.store with save := none, imageState := .corrupt, nv := .torn } }

/-- RESET's answer: a save in flight is abandoned, and the LINK reset begins when this reply has been transmitted in full
(R166). -/
def answerReset (s : State) : Answer :=
  if s.router.mode = .run then s.refuse .modeRefused else s.abandonSave.ok

/-- MODE(SETUP)'s answer (R158). -/
def answerModeSetup (s : State) : Answer :=
  if s.router.mode = .setup then s.refuse .already else (s.changeMode .setup .request).ok

/-- MODE(RUN)'s answer, by its conditions in their order (R158). -/
def answerModeRun (s : State) : Answer :=
  match s.router.mode with
  | .run => s.refuse .already
  | .halt => s.refuse .modeRefused
  | .setup =>
    if s.store.save.isSome then s.refuse .busy
    else if s.router.anyStopping then s.refuse .modeRefused
    else if !s.findingsA.isEmpty then s.refuse .planInvalid
    else (s.changeMode .run .request).ok

/-- MODE's answer (R158). -/
def answerMode (target : Byte) (s : State) : Answer :=
  match targetOf target with
  | some .setup => answerModeSetup s
  | some .run => answerModeRun s
  | _ => s.refuse .format

/-- CHECK's answer (R160). -/
def answerCheck (level : Byte) (s : State) : Answer :=
  if 2 < level.toNat then s.refuse .format
  else { state := s, code := .ok, content := .findings (s.checkReport level.toNat) }

/-- SET_ITEM (R180). -/
def execSetItem (p : PortId) (tag : Byte) (item value : Half) (s : State) : Host.Outcome State Fault Refusal :=
  s.actRequest p 0x20 tag (answerSetItem item value)

/-- SAVE (R163). -/
def execSave (p : PortId) (tag : Byte) (s : State) : Host.Outcome State Fault Refusal :=
  s.actRequest p 0x30 tag answerSave

/-- RESET (R166). -/
def execReset (p : PortId) (tag : Byte) (s : State) : Host.Outcome State Fault Refusal :=
  s.actRequest p 0x31 tag answerReset

/-- MODE (R158). -/
def execMode (p : PortId) (tag target : Byte) (s : State) : Host.Outcome State Fault Refusal :=
  s.actRequest p 0x2E tag (answerMode target)

/-- CHECK (R160). -/
def execCheck (p : PortId) (tag level : Byte) (s : State) : Host.Outcome State Fault Refusal :=
  s.actRequest p 0x2F tag (answerCheck level)

end Sys2Proof.Machine
end

