-- ==== Sys2Proof/Machine/Driving.lean ====
section
/-! DEFINITION. The requests that the allotment unit takes: DEMAND (R113), BATTERY (R97) and TRACTION_INHIBIT (R117). -/
namespace Sys2Proof.Machine

/-- DEMAND's answer (R113). -/
def answerDemand (mode : Byte) (magnitude : Half) (s : State) : Answer :=
  match demandModeOf mode with
  | none => s.refuse .format
  | some m =>
    let stored := min 800 magnitude.toNat
    { state :=
        { s with allot :=
            { s.allot with
              demand := some { mode := m, received := stored, effective := stored, age := 0, silent := false } } }
      code := if stored = magnitude.toNat then .ok else .clamped }

/-- BATTERY's answer (R97): 0 ISOLATED, with its battery cut (R98); 1 AVAILABLE. -/
def answerBattery (value : Byte) (s : State) : Answer :=
  match switchOf value with
  | none => s.refuse .format
  | some b =>
    if s.allot.batteryAvailable = b then s.refuse .already
    else
      let told : State := { s with allot := { s.allot with batteryAvailable := b } }
      if b then told.ok else told.takeBatteryCut.ok

/-- TRACTION_INHIBIT's answer (R117): 0 CLEAR, 1 SET with the source CAB. -/
def answerTractionInhibit (value : Byte) (s : State) : Answer :=
  match switchOf value with
  | none => s.refuse .format
  | some b =>
    if s.allot.inhibit.isSome = b then s.refuse .already
    else ({ s with allot := { s.allot with inhibit := if b then some .cab else none } } : State).ok

/-- DEMAND (R113). -/
def execDemand (p : PortId) (tag mode : Byte) (magnitude : Half) (s : State) : Host.Outcome State Fault Refusal :=
  s.actRequest p 0x10 tag (answerDemand mode magnitude)

/-- BATTERY (R97). -/
def execBattery (p : PortId) (tag value : Byte) (s : State) : Host.Outcome State Fault Refusal :=
  s.actRequest p 0x34 tag (answerBattery value)

/-- TRACTION_INHIBIT (R117). -/
def execTractionInhibit (p : PortId) (tag value : Byte) (s : State) : Host.Outcome State Fault Refusal :=
  s.actRequest p 0x35 tag (answerTractionInhibit value)

end Sys2Proof.Machine
end

