-- ==== Sys2Proof/Machine/Reads.lean ====
section
/-! DEFINITION. The reads (R12, R34, R49, R53, R66, R94, R138, R156, R178, R180) and POLL (R177): what each is answered,
and its meaning as a complete frame at a port. -/
namespace Sys2Proof.Machine

/-! ## Answers -/

/-- READ_ALLOTMENT's answer (R94, R110, R121). -/
def answerReadAllotment (s : State) : Answer :=
  let u := s.allot
  { state := s, code := .ok
    content := .allotment
      { record := u.record, frame := u.frame, period := u.line.tF, staged := u.stagedTf, n := u.acc.n
        reclose := u.reclose, sag := u.sag, cutMark := u.cutMark, batteryAvailable := u.batteryAvailable
        boost := u.battery.boost, charge := u.battery.charge, overvoltRead := u.overvoltRead, demand := u.demand
        inhibit := u.inhibit, overdraw := u.overdraw, warn := u.warn, persist := u.persist
        afterCut := u.afterCut } }

/-- What READ_CONTACT reports of a monitor (R34). -/
def Monitor.report (m : Monitor) : MonitorReport :=
  { state := m.state, detected := m.detected, filter := m.filter, cls := m.cls }

/-- READ_CONTACT's answer (R34). -/
def answerReadContact (s : State) : Answer :=
  let u := s.contact
  { state := s, code := .ok
    content := .contact
      { contact := u.contact, gapTimer := u.gapTimer, monitors := u.monitors.map Monitor.report, poles := u.poles
        loweringTimer := u.loweringTimer } }

/-- READ_ALARMS' answer: at or beyond the number of entries, that number alone (R49). -/
def answerReadAlarms (position : Byte) (s : State) : Answer :=
  let active := s.alarm.active
  match active[position.toNat]? with
  | some e => { state := s, code := .ok, content := .alarms active.length (some (s.alarm.interlock, e)) }
  | none => { state := s, code := .noSuch, content := .alarms active.length none }

/-- READ_HISTORY's answer: at or beyond the number of entries, all but the entry (R53). -/
def answerReadHistory (position : Byte) (s : State) : Answer :=
  let u := s.alarm
  let entry := u.history[position.toNat]?
  { state := s, code := if entry.isSome then .ok else .noSuch
    content := .history u.history.length u.policy u.historyFull entry }

/-- READ_FAULTS' answer: outside 1..16, the mode and the latches alone (R156). -/
def answerReadFaults (kind : Byte) (s : State) : Answer :=
  let r := s.router
  let named := (EventKind.ofNumber kind.toNat).map fun k => (r.faults[k.index], r.routing[k.index])
  { state := s, code := if named.isSome then .ok else .noSuch
    content := .faults r.mode (Vector.ofFn fun i => (r.faults[i]).latch) named }

/-- What READ_AUX shows of a present record besides the one it names (R147; log 33). -/
def AuxRecord.stateReport (r : AuxRecord) : AuxStateReport :=
  { state := r.state, shed := if r.state = .shed then some (r.want, r.offInhibit) else none }

/-- READ_AUX's answer: for a slot above 11, all but the record (R138, R147). -/
def answerReadAux (slot : Byte) (s : State) : Answer :=
  let a := s.aux
  let named := (slotOf slot).map fun i => a.table[i]
  { state := s, code := if named.isSome then .ok else .noSuch
    content := .aux
      { record := named, states := Vector.ofFn fun i => (a.table[i]).map AuxRecord.stateReport, queue := a.queue
        starting := a.starting, stall := a.stall, totals := a.totals, orders := a.orders
        startWaitMax := a.settings.startWaitMax, shortfallCount := a.shortfallCount
        shedFrames := a.settings.shedFrames, essentialShort := a.essentialShort } }

/-- READ_SECTION's answer: at or beyond the number of entries, all but the entry (R66). -/
def answerReadSection (position : Byte) (s : State) : Answer :=
  let u := s.sections
  let entry := u.table[position.toNat]?
  { state := s, code := if entry.isSome then .ok else .noSuch
    content := .sections
      { count := u.table.length, current := u.current, limits := u.limits, expectation := u.expectation
        settings := u.settings, entry := entry } }

/-- READ_MEASURE's answer (R12). -/
def answerReadMeasure (s : State) : Answer :=
  let m := s.meas
  { state := s, code := .ok
    content := .measure
      { period := m.period, latest := m.latest, faults := Vector.ofFn fun c => (m.channels[c]).fault
        railCounts := Vector.ofFn fun c => (m.channels[c]).railCount, calib := m.calib } }

/-- READ_ITEM's answer (R180). -/
def answerReadItem (item : Half) (s : State) : Answer :=
  match Item.ofNumber item.toNat with
  | some i => { state := s, code := .ok, content := .item (i.read s) (i.readInForce s) }
  | none => s.refuse .noSuch

/-- What PORT_STATUS reports of a port. For the requesting port the reply slot is the one the request found (R178;
log 14). -/
def Port.report (port : Port) : PortReport :=
  { inForce := port.inForce, written := port.written, counts := port.counts, slotOccupied := port.slot.isSome
    waiting := port.queue.map Notice.kind }

/-- PORT_STATUS' answer, with the counts cleared after they are reported where the clear flag says so (R178). -/
def answerPortStatus (named clear : Byte) (s : State) : Answer :=
  match portOf named with
  | none => s.refuse .noSuch
  | some p =>
    match switchOf clear with
    | none => s.refuse .format
    | some c =>
      { state := if c then s.setPort p { s.ports[p] with counts := .zero } else s
        code := .ok, content := .portStatus (s.ports[p]).report }

/-- POLL's answer on a port (R177). -/
def answerPoll (p : PortId) (s : State) : Answer :=
  let port := s.ports[p]
  match port.inForce.duplex, port.queue with
  | .half, n :: rest =>
    { state := s.setPort p { port with queue := rest }, code := .ok, content := .poll (some n) rest.length }
  | _, queue => { state := s, code := .ok, content := .poll none queue.length }

/-! ## Meanings -/

/-- READ_ALLOTMENT (R94). -/
def execReadAllotment (p : PortId) (tag : Byte) (s : State) : Host.Outcome State Fault Refusal :=
  s.actRequest p 0x01 tag answerReadAllotment

/-- READ_CONTACT (R34). -/
def execReadContact (p : PortId) (tag : Byte) (s : State) : Host.Outcome State Fault Refusal :=
  s.actRequest p 0x02 tag answerReadContact

/-- READ_ALARMS (R49). -/
def execReadAlarms (p : PortId) (tag position : Byte) (s : State) : Host.Outcome State Fault Refusal :=
  s.actRequest p 0x03 tag (answerReadAlarms position)

/-- READ_HISTORY (R53). -/
def execReadHistory (p : PortId) (tag position : Byte) (s : State) : Host.Outcome State Fault Refusal :=
  s.actRequest p 0x04 tag (answerReadHistory position)

/-- READ_FAULTS (R156). -/
def execReadFaults (p : PortId) (tag kind : Byte) (s : State) : Host.Outcome State Fault Refusal :=
  s.actRequest p 0x05 tag (answerReadFaults kind)

/-- READ_AUX (R138). -/
def execReadAux (p : PortId) (tag slot : Byte) (s : State) : Host.Outcome State Fault Refusal :=
  s.actRequest p 0x06 tag (answerReadAux slot)

/-- READ_SECTION (R66). -/
def execReadSection (p : PortId) (tag position : Byte) (s : State) : Host.Outcome State Fault Refusal :=
  s.actRequest p 0x07 tag (answerReadSection position)

/-- READ_MEASURE (R12). -/
def execReadMeasure (p : PortId) (tag : Byte) (s : State) : Host.Outcome State Fault Refusal :=
  s.actRequest p 0x08 tag answerReadMeasure

/-- READ_ITEM (R180). -/
def execReadItem (p : PortId) (tag : Byte) (item : Half) (s : State) : Host.Outcome State Fault Refusal :=
  s.actRequest p 0x09 tag (answerReadItem item)

/-- PORT_STATUS (R178). -/
def execPortStatus (p : PortId) (tag named clear : Byte) (s : State) : Host.Outcome State Fault Refusal :=
  s.actRequest p 0x0A tag (answerPortStatus named clear)

/-- POLL (R177). -/
def execPoll (p : PortId) (tag : Byte) (s : State) : Host.Outcome State Fault Refusal :=
  s.actRequest p 0x0B tag (answerPoll p)

end Sys2Proof.Machine
end

