-- ==== Sys2Proof/Machine/Sections.lean ====
section
/-! DEFINITION. The requests that the section unit takes: SECTION_WRITE (R58), SECTION_ERASE (R60), SECTION_SET (R61) and
SECTION_AHEAD (R62). -/
namespace Sys2Proof.Machine

/-- SECTION_WRITE's answer (R58, R59). -/
def answerSectionWrite (entries : List SectionFields) (s : State) : Answer :=
  if s.router.mode = .halt then s.refuse .modeRefused
  else
    let written := s.writeSections entries
    { state := written.1
      code := if written.2.2.isSome then .abortedAt else .ok
      content := .sectionsWritten written.2.1 written.2.2 }

/-- SECTION_ERASE's answer (R60). -/
def answerSectionErase (s : State) : Answer :=
  if s.router.mode = .halt then s.refuse .modeRefused
  else
    let erased : State :=
      { s with sections := { s.sections with table := [], current := none, expectation := none } }
    if s.sections.current.isSome then erased.handLimits.ok else erased.ok

/-- SECTION_SET's answer (R61). -/
def answerSectionSet (id : Half) (s : State) : Answer :=
  if (s.sections.find id.toNat).isNone then s.refuse .noSuch
  else
    let placed := s.placeSection (some id.toNat)
    if s.sections.current = some id.toNat then placed.ok else placed.handLimits.ok

/-- The expectation opened for a section: its window running, gap-seen clear (R62). -/
def SectionUnit.opened (u : SectionUnit) (id : Nat) : Expectation :=
  { pendingId := id, window := .running u.settings.expectWindow, gapSeen := false }

/-- SECTION_AHEAD's answer, by its conditions in their order (R62). -/
def answerSectionAhead (id : Half) (s : State) : Answer :=
  let announced : State :=
    { s with sections := { s.sections with expectation := some (s.sections.opened id.toNat) } }
  if (s.sections.find id.toNat).isNone then s.refuse .noSuch
  else
    match s.sections.expectation with
    | some e => if e.gapSeen then s.refuse .busy else { state := announced, code := .replaced }
    | none => announced.ok

/-- SECTION_WRITE (R58): a frame of no entries or of more than four has a bad length. -/
def execSectionWrite (p : PortId) (tag : Byte) (entries : List SectionFields) (s : State) :
    Host.Outcome State Fault Refusal :=
  s.actFrame p fun s => s.takeRequest p 0x23 tag (entryCountGood entries) (answerSectionWrite entries)

/-- SECTION_ERASE (R60). -/
def execSectionErase (p : PortId) (tag : Byte) (s : State) : Host.Outcome State Fault Refusal :=
  s.actRequest p 0x24 tag answerSectionErase

/-- SECTION_SET (R61). -/
def execSectionSet (p : PortId) (tag : Byte) (id : Half) (s : State) : Host.Outcome State Fault Refusal :=
  s.actRequest p 0x25 tag (answerSectionSet id)

/-- SECTION_AHEAD (R62). -/
def execSectionAhead (p : PortId) (tag : Byte) (id : Half) (s : State) : Host.Outcome State Fault Refusal :=
  s.actRequest p 0x26 tag (answerSectionAhead id)

end Sys2Proof.Machine
end

