-- ==== Sys2Proof/Machine/Starting.lean ====
section
/-! DEFINITION. Resets and start-up (chapter 11): the judgement of the image, what a reset abandons, start-up with its first
mode, and the holds that keep the part in reset. -/
namespace Sys2Proof.Machine

/-! ## The judgement of the image (R162) -/

/-- The numeric settings other than the calibration records. -/
def NumericItem.plain : List NumericItem :=
  [.vLoss, .hLoss, .vOv, .hOv, .latLimit, .elevMin, .elevMax, .hAng, .stowLevel, .seatTime, .gapMax, .lowerTimeMax,
   .iFeedDefault, .iRgmaxDefault, .expectWindow, .vFloor, .vKnee, .sUp, .rCom, .tRc, .vBatMin, .vBatLow, .iBatMax,
   .iBatChg, .vChgTaper, .vBatFull, .vOvk, .vMax, .holdFrames, .staleDecay, .cutoffFrames, .tol, .odWarn, .odStop,
   .startWaitMax, .shedFrames]

/-- Every numeric setting of the image. -/
def NumericItem.every : List NumericItem :=
  NumericItem.plain ++ (List.finRange 8).flatMap fun c => [.offset c, .gain c]

/-- An entry of the section table within its ranges (R55). -/
def SectionEntry.inRange (e : SectionEntry) : Bool :=
  Machine.inRange 1 4095 e.id && decide (e.iFeed ≤ 1000) && decide (e.iRgmax ≤ 800) &&
    match e.gapOverride with
    | some g => Machine.inRange 100 5000 g
    | none => true

/-- The ids of a section table ascend, each at most once (R55). -/
def idsAscend : List SectionEntry → Bool
  | a :: b :: rest => decide (a.id < b.id) && idsAscend (b :: rest)
  | _ => true

/-- A configured part within its ranges, its run time present for TIMED alone (R122). -/
def AuxConfig.inRange (c : AuxConfig) : Bool :=
  Machine.inRange 1 200 c.iRun && Machine.inRange c.iRun 400 c.iIn && Machine.inRange 10 5000 c.tIn &&
    decide (c.tOnMin ≤ 600) && decide (c.tOffMin ≤ 600) &&
    match c.mode, c.tRun with
    | .timed, some t => Machine.inRange 1 3600 t
    | .continuous, none => true
    | _, _ => false

/-- A decimation is 1, 2, 4 or 8 (R16). -/
def decimationGood (d : Nat) : Bool := d == 1 || d == 2 || d == 4 || d == 8

/-- The action-enable flag of a kind without a routable action is off (R150). -/
def routesGood (routing : Vector RouteEntry 16) : Bool :=
  EventKind.list.all fun k => k.action.isSome || !(routing[k.index]).action

/-- Every field of the image holds a value within its range (R162). -/
def Image.inRange (g : Image) : Bool :=
  (NumericItem.every.all fun n => Machine.inRange n.range.1 n.range.2 (n.ofImage g)) &&
    Machine.inRange 1 8 g.sweepPeriod && Machine.inRange 5 50 g.line.tF &&
    (monitorOrder.all fun m => decimationGood (g.contact.monitors.get m).decimation) &&
    decide (g.sectionTable.length ≤ 32) && g.sectionTable.all SectionEntry.inRange && idsAscend g.sectionTable &&
    (g.auxTable.toList.all fun a => match a with
      | some c => c.inRange
      | none => true) &&
    routesGood g.routing

/-- What start-up finds in the non-volatile memory and loads from it: the image where it is valid, the defaults where it
is blank or corrupt (R162). -/
def NvMemory.judge : NvMemory → ImageState × Image
  | .erased => (.blank, .defaults)
  | .written g stored =>
    if g.readsErased stored then (.blank, .defaults)
    else if stored == g.checksum && g.inRange then (.valid, g)
    else (.corrupt, .defaults)
  | .torn => (.corrupt, .defaults)

/-! ## The beginning of a reset (R165) -/

/-- Every timer of an auxiliary record stopped. -/
def AuxRecord.timersStopped (r : AuxRecord) : AuxRecord :=
  { r with inrush := .stopped, onTimer := .stopped, runTimer := .stopped, offInhibit := .stopped }

/-- A port with its reception, its transmission, its reply and its notices abandoned (R165). -/
def Port.abandon (port : Port) : Port := { port with receiver := .hunting, slot := none, queue := [], tx := none }

/-- A reset abandons every operation in flight in every block: the sweep, the timers, a save, the frames in transmission
and the notice queues (R165). An image being rewritten stays torn (R163). -/
def State.abandon (s : State) : State :=
  { s with
    meas := { s.meas with inFlight := none }
    contact := { s.contact with
      poles := s.contact.poles.map fun r => { r with seat := .stopped }
      gapTimer := .stopped
      loweringTimer := .stopped }
    sections := { s.sections with expectation := none }
    allot := { s.allot with frameTimer := .stopped, reclose := .stopped }
    aux := { s.aux with
      table := Vector.ofFn fun i => (s.aux.table[i]).map AuxRecord.timersStopped
      stall := .stopped }
    store := { s.store with save := none }
    ports := Vector.ofFn fun p => (s.ports[p]).abandon }

/-! ## Start-up (R167, R168) -/

/-- The reset cause that start-up records: POWER_ON while the retention flag is clear, and otherwise the cause taken last
(R165). -/
def Power.cause (w : Power) : ResetCause := if w.retention then w.lastCause else .powerOn

/-- The retained part of the alarm unit, kept or cleared, with its list emptied and its policy loaded (R54, R167). -/
def AlarmUnit.afterReset (u : AlarmUnit) (cause : ResetCause) (policy : HistoryPolicy) : AlarmUnit :=
  if cause = .powerOn then { active := [], counter := 0, history := [], historyFull := false, policy := policy }
  else { u with active := [], policy := policy }

/-- The fault table, kept or cleared, and the routing table loaded (R161, R167). No mode has been entered yet: SETUP
stands in the field until the first mode is (log 18). -/
def Router.afterReset (r : Router) (cause : ResetCause) (routing : Vector RouteEntry 16) : Router :=
  { routing := routing
    faults := if cause = .powerOn then Vector.replicate 16 .cleared else r.faults
    mode := .setup }

/-- Steps 1 to 3 of R167: the cause recorded, the retained memory kept or cleared, the image judged, and every block put
into its reset state and loaded. -/
def State.load (s : State) : State :=
  let cause := s.power.cause
  let judged := s.store.nv.judge
  let g := judged.2
  { meas := .afterReset g
    contact := .afterReset g
    alarm := s.alarm.afterReset cause g.policy
    sections := .afterReset g
    allot := .afterReset g .setup
    aux := .afterReset g
    router := s.router.afterReset cause g.routing
    store := { nv := s.store.nv, imageState := judged.1, save := none, resetCause := cause, autoRun := g.autoRun }
    ports := Vector.ofFn fun p => .afterReset g.ports[p]
    power := { s.power with retention := true }
    pending := s.pending }

/-- Step 4 of R167: a corrupt image raises CONFIG_CORRUPT. -/
def State.reportImage (s : State) : State :=
  if s.store.imageState = .corrupt then s.handleEvent ⟨.configCorrupt, .stopping, .absent⟩ else s

/-- The first mode (R168). -/
def State.firstMode (s : State) : Mode :=
  if s.router.anyStopping then .halt
  else if s.store.autoRun && s.store.resetCause != .link && s.findingsA.isEmpty then .run
  else .setup

/-- Steps 5 and 6 of R167: the first mode is entered with its notices, and sweeps and frames begin. -/
def State.enterFirstMode (s : State) (mode : Mode) : State :=
  let entered : State :=
    { s with
      router := { s.router with mode := mode }
      allot := { s.allot with record := .afterReset mode, frameTimer := .running s.allot.line.tF }
      meas := { s.meas with inFlight := some s.meas.period } }
  (entered.notify (.mode mode none .startUp)).notify (.auxOrders entered.aux.orders)

/-- Start-up, at the end of every reset (R167). -/
def State.startUp (s : State) : State :=
  let reported := s.load.reportImage
  reported.enterFirstMode reported.firstMode

/-- A supply or pin cause has gone: start-up runs unless another keeps the part in reset (R165), and then the
transmitters make their choice (R176). -/
def State.endHold (s : State) : State := if s.up then s.startUp.beginWaiting else s

/-- A LINK reset begins and ends at once (R165, R166). -/
def State.linkReset (s : State) : State :=
  let abandoned := s.abandon
  ({ abandoned with power := { abandoned.power with lastCause := .link } } : State).startUp

end Sys2Proof.Machine
end

