-- ==== Sys2Proof/Machine/Reception.lean ====
section
/-! DEFINITION. The ports' receivers and transmitters: a byte at a receiver (R171) up to the taking of a complete frame
(R172), the ways a frame is abandoned, and the end of a transmission (R173, R176, R166). -/
namespace Sys2Proof.Machine

/-! ## Error counts and the receiver -/

/-- Change a port's error counts and return its receiver to HUNTING (R171). -/
def State.failFrame (s : State) (p : PortId) (f : PortCounts → PortCounts) : State :=
  s.setPort p { s.ports[p] with receiver := .hunting, counts := f (s.ports[p]).counts }

/-- A line error is counted (R171). -/
def PortCounts.lineError (c : PortCounts) : PortCounts := { c with line := satSucc 65535 c.line }

/-- A check error is counted (R171). -/
def PortCounts.checkError (c : PortCounts) : PortCounts := { c with check := satSucc 65535 c.check }

/-- A timeout is counted (R171). -/
def PortCounts.timeoutError (c : PortCounts) : PortCounts := { c with timeout := satSucc 65535 c.timeout }

/-- The count that an abandoned frame increases (R171). -/
def countFailure : FrameFailure → PortCounts → PortCounts
  | .byteError => PortCounts.lineError
  | .badLength | .badCheck => PortCounts.checkError

/-- The length of the gap timer, in milliseconds (R171). -/
def receiveGap : Nat := 2

/-- A receiver goes on with its frame, its gap timer restarted (R171). -/
def State.receiving (s : State) (p : PortId) (length : Option Nat) (body : List Byte) : State :=
  s.setPort p { s.ports[p] with receiver := .inFrame length body receiveGap }

/-! ## A complete frame -/

/-- A request carried by a complete frame is taken (R172). Commands that are no request are carried by no frame. -/
def State.takeCommand (s : State) : Instr → State
  | .readAllotment p t => s.takeRequest p 0x01 t true answerReadAllotment
  | .readContact p t => s.takeRequest p 0x02 t true answerReadContact
  | .readAlarms p t a => s.takeRequest p 0x03 t true (answerReadAlarms a)
  | .readHistory p t a => s.takeRequest p 0x04 t true (answerReadHistory a)
  | .readFaults p t k => s.takeRequest p 0x05 t true (answerReadFaults k)
  | .readAux p t a => s.takeRequest p 0x06 t true (answerReadAux a)
  | .readSection p t a => s.takeRequest p 0x07 t true (answerReadSection a)
  | .readMeasure p t => s.takeRequest p 0x08 t true answerReadMeasure
  | .readItem p t i => s.takeRequest p 0x09 t true (answerReadItem i)
  | .portStatus p t a c => s.takeRequest p 0x0A t true (answerPortStatus a c)
  | .poll p t => s.takeRequest p 0x0B t true (answerPoll p)
  | .demand p t m a => s.takeRequest p 0x10 t true (answerDemand m a)
  | .auxStart p t a => s.takeRequest p 0x18 t true (answerAuxStart a)
  | .auxStop p t a => s.takeRequest p 0x19 t true (answerAuxStop a)
  | .setItem p t i v => s.takeRequest p 0x20 t true (answerSetItem i v)
  | .auxWrite p t a f => s.takeRequest p 0x21 t true (answerAuxWrite a f)
  | .auxRemove p t a => s.takeRequest p 0x22 t true (answerAuxRemove a)
  | .sectionWrite p t es => s.takeRequest p 0x23 t (entryCountGood es) (answerSectionWrite es)
  | .sectionErase p t => s.takeRequest p 0x24 t true answerSectionErase
  | .sectionSet p t i => s.takeRequest p 0x25 t true (answerSectionSet i)
  | .sectionAhead p t i => s.takeRequest p 0x26 t true (answerSectionAhead i)
  | .routeWrite p t k m e => s.takeRequest p 0x27 t true (answerRouteWrite k m e)
  | .ackAlarm p t n => s.takeRequest p 0x28 t true (answerAckAlarm p n)
  | .clearHistory p t => s.takeRequest p 0x29 t true answerClearHistory
  | .setHistoryPolicy p t q => s.takeRequest p 0x2A t true (answerSetHistoryPolicy q)
  | .clearFault p t k => s.takeRequest p 0x2B t true (answerClearFault k)
  | .raiseFault p t n c => s.takeRequest p 0x2C t true (answerRaiseFault n c)
  | .clearFlags p t => s.takeRequest p 0x2D t true answerClearFlags
  | .mode p t m => s.takeRequest p 0x2E t true (answerMode m)
  | .check p t l => s.takeRequest p 0x2F t true (answerCheck l)
  | .save p t => s.takeRequest p 0x30 t true answerSave
  | .reset p t => s.takeRequest p 0x31 t true answerReset
  | .lower p t => s.takeRequest p 0x32 t true answerLower
  | .raise p t => s.takeRequest p 0x33 t true answerRaise
  | .battery p t v => s.takeRequest p 0x34 t true (answerBattery v)
  | .tractionInhibit p t v => s.takeRequest p 0x35 t true (answerTractionInhibit v)
  | .sweepCompletion _ | .seatTimerExpiry _ | .gapTimerExpiry | .loweringTimerExpiry | .windowExpiry | .frameExpiry
  | .recloseExpiry | .inrushExpiry _ | .onTimerExpiry _ | .runTimerExpiry _ | .offInhibitExpiry _ | .stallTimerExpiry
  | .saveCompletion _ | .receiveGapTimeout _ | .frameCheckFailed _ _ | .unknownRequest _ _ _ | .transmitComplete _
  | .powerOn | .supplyLow | .retentionLost | .supplyStableExpiry | .pinResetAssert | .pinResetRelease
  | .byteReceived _ _ _ => s

/-- The body of a complete frame is taken by the lines of R172 in their order. -/
def State.takeBody (s : State) (p : PortId) (body : List Byte) : State :=
  match readBody p body with
  | .unknown kind tag => s.answerFrame p kind tag .unknown
  | .badLength kind tag => s.answerFrame p kind tag .format
  | .request i => s.takeCommand i

/-- A byte at a receiver (R171). A HALF-duplex port's receiver ignores the line while its transmitter is sending. -/
def State.takeByte (s : State) (p : PortId) (b : Byte) (error : Bool) : State :=
  let port := s.ports[p]
  if port.deaf then s
  else if error then s.failFrame p PortCounts.lineError
  else
    match port.receiver with
    | .hunting => if b = 0xA5 then s.receiving p none [] else s
    | .inFrame none _ _ =>
      if inRange 2 60 b.toNat then s.receiving p (some b.toNat) [] else s.failFrame p PortCounts.checkError
    | .inFrame (some n) body _ =>
      if body.length < n then s.receiving p (some n) (body ++ [b])
      else if b = checkByte body then (s.hunt p).takeBody p body
      else s.failFrame p PortCounts.checkError

/-! ## The end of a transmission -/

/-- The reply of a RESET that was accepted (R166). -/
def Reply.startsReset (r : Reply) : Bool := r.kind == 0x31 && r.code == .ok

/-- A port's transmission has ended: of a notice, or of the reply part that was next; the slot is freed after the last
part (R173), and the LINK reset begins after an accepted RESET's (R166). Where RESETs have been accepted on two ports, R166
says that both lead to the one reset and not which reply's end begins it: the model begins it at the end of whichever reply
ends first, and abandons the other (DESIGN CHOICE, log 35, unsafe). -/
def State.transmitted (s : State) (p : PortId) : State :=
  let port := s.ports[p]
  let idle : Port := { port with tx := none }
  match port.tx, port.slot with
  | some .replyPart, some r =>
    if r.sent + 1 < r.parts then s.setPort p { idle with slot := some { r with sent := r.sent + 1 } }
    else
      let freed := s.setPort p { idle with slot := none }
      if r.reply.startsReset then freed.linkReset else freed
  | some _, _ => s.setPort p idle
  | none, _ => s

/-! ## Meanings -/

/-- BYTE_RECEIVED (R171). -/
def execByteReceived (p : PortId) (b : Byte) (error : Bool) (s : State) : Host.Outcome State Fault Refusal :=
  s.act fun s => s.takeByte p b error

/-- RECEIVE_GAP_TIMEOUT: the gap timer of a receiver in a frame expires before the check byte (R171). -/
def execReceiveGapTimeout (p : PortId) (s : State) : Host.Outcome State Fault Refusal :=
  s.act fun s =>
    match (s.ports[p]).receiver with
    | .inFrame .. => s.failFrame p PortCounts.timeoutError
    | .hunting => s

/-- FRAME_CHECK_FAILED: a frame is abandoned unanswered (R171; log 5). -/
def execFrameCheckFailed (p : PortId) (failure : FrameFailure) (s : State) : Host.Outcome State Fault Refusal :=
  s.actFrame p fun s => s.failFrame p (countFailure failure)

/-- UNKNOWN_REQUEST: a complete frame whose kind byte names no request is answered UNKNOWN (R172). -/
def execUnknownRequest (p : PortId) (tag kind : Byte) (s : State) : Host.Outcome State Fault Refusal :=
  s.actFrame p fun s => s.answerFrame p kind tag .unknown

/-- TRANSMIT_COMPLETE (R176). -/
def execTransmitComplete (p : PortId) (s : State) : Host.Outcome State Fault Refusal :=
  s.act fun s => s.transmitted p

end Sys2Proof.Machine
end

