-- ==== Sys2Proof/Machine/Resets.lean ====
section
/-! DEFINITION. The meanings of the supply's and RESETN's events (R165). They reach the part in reset as out of it. -/
namespace Sys2Proof.Machine

/-- POWER_ON: the supply rises from below the retention level. The retained memory has lost its supply, so the retention
flag is clear; the 10 ms wait begins (R165; log 12). -/
def execPowerOn (s : State) : Host.Outcome State Fault Refusal :=
  .next
    { s.abandon with
      power :=
        { s.power with supplyHold := true, stableWait := .running 10, lastCause := .powerOn, retention := false } }

/-- SUPPLY_LOW: the supply monitor finds VDD below 4.4 V; a reset begins, or the 10 ms wait starts again (R165). -/
def execSupplyLow (s : State) : Host.Outcome State Fault Refusal :=
  .next
    { s.abandon with
      power := { s.power with supplyHold := true, stableWait := .running 10, lastCause := .supplyLow } }

/-- RETENTION_LOST: VDD falls below 2.0 V and the retention flag is cleared (R165). -/
def execRetentionLost (s : State) : Host.Outcome State Fault Refusal :=
  .next { s with power := { s.power with retention := false } }

/-- SUPPLY_STABLE_EXPIRY: VDD has stood at or above 4.4 V for 10 ms; the supply's hold ends, and start-up runs if RESETN
does not hold the part (R165, R167). -/
def execSupplyStableExpiry (s : State) : Host.Outcome State Fault Refusal :=
  if s.power.supplyHold && s.power.stableWait.isRunning then
    .next ({ s with power := { s.power with supplyHold := false, stableWait := .stopped } } : State).endHold
  else .next s

/-- PIN_RESET_ASSERT: RESETN is driven low and a PIN reset begins, or the part is kept in reset (R165). -/
def execPinResetAssert (s : State) : Host.Outcome State Fault Refusal :=
  if s.power.pinHold then .next s
  else .next { s.abandon with power := { s.power with pinHold := true, lastCause := .pin } }

/-- PIN_RESET_RELEASE: RESETN returns high; start-up runs if the supply does not hold the part (R165, R167). -/
def execPinResetRelease (s : State) : Host.Outcome State Fault Refusal :=
  if s.power.pinHold then .next ({ s with power := { s.power with pinHold := false } } : State).endHold
  else .next s

end Sys2Proof.Machine
end

