-- ==== Sys2Proof/Machine/Dispatch.lean ====
section
/-! DEFINITION. One arm per command of spec/opcode_table.json. -/
namespace Sys2Proof.Machine

/-- The effect of a command on everything but the queue. -/
def exec (i : Instr) (s : State) : Host.Outcome State Fault Refusal :=
  match i with
  | .sweepCompletion codes => Sys2Proof.Machine.execSweepCompletion codes s
  | .seatTimerExpiry pole => Sys2Proof.Machine.execSeatTimerExpiry pole s
  | .gapTimerExpiry => Sys2Proof.Machine.execGapTimerExpiry s
  | .loweringTimerExpiry => Sys2Proof.Machine.execLoweringTimerExpiry s
  | .windowExpiry => Sys2Proof.Machine.execWindowExpiry s
  | .frameExpiry => Sys2Proof.Machine.execFrameExpiry s
  | .recloseExpiry => Sys2Proof.Machine.execRecloseExpiry s
  | .inrushExpiry slot => Sys2Proof.Machine.execInrushExpiry slot s
  | .onTimerExpiry slot => Sys2Proof.Machine.execOnTimerExpiry slot s
  | .runTimerExpiry slot => Sys2Proof.Machine.execRunTimerExpiry slot s
  | .offInhibitExpiry slot => Sys2Proof.Machine.execOffInhibitExpiry slot s
  | .stallTimerExpiry => Sys2Proof.Machine.execStallTimerExpiry s
  | .saveCompletion agrees => Sys2Proof.Machine.execSaveCompletion agrees s
  | .receiveGapTimeout port => Sys2Proof.Machine.execReceiveGapTimeout port s
  | .frameCheckFailed port failure => Sys2Proof.Machine.execFrameCheckFailed port failure s
  | .unknownRequest port tag kind => Sys2Proof.Machine.execUnknownRequest port tag kind s
  | .transmitComplete port => Sys2Proof.Machine.execTransmitComplete port s
  | .powerOn => Sys2Proof.Machine.execPowerOn s
  | .supplyLow => Sys2Proof.Machine.execSupplyLow s
  | .retentionLost => Sys2Proof.Machine.execRetentionLost s
  | .supplyStableExpiry => Sys2Proof.Machine.execSupplyStableExpiry s
  | .pinResetAssert => Sys2Proof.Machine.execPinResetAssert s
  | .pinResetRelease => Sys2Proof.Machine.execPinResetRelease s
  | .readAllotment port tag => Sys2Proof.Machine.execReadAllotment port tag s
  | .readContact port tag => Sys2Proof.Machine.execReadContact port tag s
  | .readAlarms port tag position => Sys2Proof.Machine.execReadAlarms port tag position s
  | .readHistory port tag position => Sys2Proof.Machine.execReadHistory port tag position s
  | .readFaults port tag kind => Sys2Proof.Machine.execReadFaults port tag kind s
  | .readAux port tag slot => Sys2Proof.Machine.execReadAux port tag slot s
  | .readSection port tag position => Sys2Proof.Machine.execReadSection port tag position s
  | .readMeasure port tag => Sys2Proof.Machine.execReadMeasure port tag s
  | .readItem port tag item => Sys2Proof.Machine.execReadItem port tag item s
  | .portStatus port tag named clear => Sys2Proof.Machine.execPortStatus port tag named clear s
  | .poll port tag => Sys2Proof.Machine.execPoll port tag s
  | .demand port tag mode magnitude => Sys2Proof.Machine.execDemand port tag mode magnitude s
  | .auxStart port tag slot => Sys2Proof.Machine.execAuxStart port tag slot s
  | .auxStop port tag slot => Sys2Proof.Machine.execAuxStop port tag slot s
  | .setItem port tag item value => Sys2Proof.Machine.execSetItem port tag item value s
  | .auxWrite port tag slot part => Sys2Proof.Machine.execAuxWrite port tag slot part s
  | .auxRemove port tag slot => Sys2Proof.Machine.execAuxRemove port tag slot s
  | .sectionWrite port tag entries => Sys2Proof.Machine.execSectionWrite port tag entries s
  | .sectionErase port tag => Sys2Proof.Machine.execSectionErase port tag s
  | .sectionSet port tag id => Sys2Proof.Machine.execSectionSet port tag id s
  | .sectionAhead port tag id => Sys2Proof.Machine.execSectionAhead port tag id s
  | .routeWrite port tag kind mask enable => Sys2Proof.Machine.execRouteWrite port tag kind mask enable s
  | .ackAlarm port tag number => Sys2Proof.Machine.execAckAlarm port tag number s
  | .clearHistory port tag => Sys2Proof.Machine.execClearHistory port tag s
  | .setHistoryPolicy port tag policy => Sys2Proof.Machine.execSetHistoryPolicy port tag policy s
  | .clearFault port tag kind => Sys2Proof.Machine.execClearFault port tag kind s
  | .raiseFault port tag number cls => Sys2Proof.Machine.execRaiseFault port tag number cls s
  | .clearFlags port tag => Sys2Proof.Machine.execClearFlags port tag s
  | .mode port tag target => Sys2Proof.Machine.execMode port tag target s
  | .check port tag level => Sys2Proof.Machine.execCheck port tag level s
  | .save port tag => Sys2Proof.Machine.execSave port tag s
  | .reset port tag => Sys2Proof.Machine.execReset port tag s
  | .lower port tag => Sys2Proof.Machine.execLower port tag s
  | .raise port tag => Sys2Proof.Machine.execRaise port tag s
  | .battery port tag state => Sys2Proof.Machine.execBattery port tag state s
  | .tractionInhibit port tag value => Sys2Proof.Machine.execTractionInhibit port tag value s
  | .byteReceived port byte error => Sys2Proof.Machine.execByteReceived port byte error s

end Sys2Proof.Machine
end

