-- ==== Sys2Proof/Machine/Layouts.lean ====
section
/-! DEFINITION. What the part sends: the header of every notice and reply part, the payload of ALLOTMENT, and the frames
made of them (R173, R181), down to the levels on the line (R170). The manual gives the content of the other notices and of
the replies by its fields alone; their bytes are free values. -/
namespace Sys2Proof.Machine

/-- A quantity in a two-byte field, least significant byte first, a negative one in two's complement (R181). -/
def fieldBytes (n : Int) : List Byte := halfBytes (BitVec.ofInt 16 n)

/-- The four bytes of the frame number, least significant first (R181). -/
def wordBytes (w : BitVec 32) : List Byte :=
  [w.extractLsb' 0 8, w.extractLsb' 8 8, w.extractLsb' 16 8, w.extractLsb' 24 8]

/-- The mode byte of an ALLOTMENT notice: 0 SETUP, 1 RUN, 2 HALT (R181). -/
def Mode.byte : Mode → Byte
  | .setup => 0
  | .run => 1
  | .halt => 2

/-- The flags byte of an ALLOTMENT notice: bit 0 line available, 1 CUT, 2 SAG, 3 INHIBIT, 4 STALE (R181). -/
def Record.flagsByte (r : Record) : Byte :=
  BitVec.ofNat 8
    (r.lineAvailable.toNat + 2 * r.flags.cut.toNat + 4 * r.flags.sag.toNat + 8 * r.flags.inhibit.toNat +
      16 * r.flags.stale.toNat)

/-- The two-byte fields of an ALLOTMENT notice, in their order from byte 6 (R181). -/
def Record.fields (r : Record) : List Int :=
  [r.means.vL, r.means.iL, r.means.vB, r.means.iB, r.factors.kV, r.factors.kB, r.factors.kOv, r.factors.kC, r.bLine,
   r.bBat, r.aEssLine, r.aCprot, r.aCres, r.aCfree, r.aCh, r.aTrLine, r.aRgLine, r.aEssBat, r.aTrBat, r.aRgBat,
   r.aRgAux, r.aRg, r.hLine, r.hBat, r.shortfall]

/-- The payload of an ALLOTMENT notice, 56 bytes (R181). -/
def Record.payload (r : Record) : List Byte :=
  wordBytes r.frame ++ [r.mode.byte, r.flagsByte] ++ r.fields.flatMap fieldBytes

/-- The kind byte of a notice (R181). -/
def NoticeKind.byte : NoticeKind → Byte
  | .allotment => 0x60
  | .contact => 0x61
  | .alarm => 0x62
  | .poleOrder => 0x63
  | .auxOrders => 0x64
  | .event => 0x65
  | .mode => 0x66

/-- The body bytes ahead of a notice's payload: its kind byte, and the tag 0 that every notice carries (R181). -/
def Notice.header (n : Notice) : List Byte := [n.kind.byte, 0]

/-- The payload of a notice: as section 12.8 lays it out for ALLOTMENT, and for the others bytes that the manual leaves
open, within what a frame holds (log 26). -/
def Notice.payload : Notice → List Byte
  | .allotment r => r.payload
  | n => (Config.noticePayload n).take 58

/-- The frame of a notice (R171, R181). -/
def Notice.frameBytes (n : Notice) : List Byte := frameOf (n.header ++ n.payload)

/-- The part byte of a reply: the part's index in bits 7 to 4, the count of parts in bits 3 to 0 (R181). -/
def partByte (index count : Nat) : Byte := BitVec.ofNat 8 (16 * index + count)

/-- The body bytes ahead of a reply part's content: reply kind, echoed tag, code, part byte (R173, R181). R181 does not
say whether a part's index counts from 0 or from 1; the model counts from 0 (DESIGN CHOICE, log 32, unsafe). Nor does it
say what byte answers a kind byte of 0x80 or above, whose sum with 0x80 no byte holds; the model takes the sum modulo 256
(DESIGN CHOICE, log 36, unsafe). -/
def ReplySlot.header (r : ReplySlot) : List Byte :=
  [r.reply.kind + 0x80, r.reply.tag, r.reply.code.value, partByte r.sent r.parts]

/-- The content bytes of a reply: none where it has no content, and otherwise bytes that the manual leaves open
(log 26). -/
def ReplyContent.bytes : ReplyContent → List Byte
  | .none => []
  | c => Config.contentBytes c

/-- Some bytes cut into a number of consecutive parts, none longer than a frame holds, and each at least as long as what
the parts behind it cannot hold; between the two the length is as `free` has it, by the number of parts behind (R173;
log 6). -/
def cutParts (free : Nat → Nat) : Nat → List Byte → List (List Byte)
  | 0, _ => []
  | n + 1, bytes =>
    let length := min frameRoom (max (bytes.length - frameRoom * n) (free n))
    bytes.take length :: cutParts free n (bytes.drop length)

/-- The content bytes of the part that is next in a reply slot (R173). -/
def ReplySlot.partBytes (r : ReplySlot) : List Byte :=
  (cutParts (Config.partLength r.reply.content) r.parts r.reply.content.bytes).getD r.sent []

/-- The frame of the part that is next in a reply slot (R173, R181). -/
def ReplySlot.frameBytes (r : ReplySlot) : List Byte := frameOf (r.header ++ r.partBytes)

/-- The body bytes ahead of the payload or the content of the frame that a port's transmitter is sending (R173, R181). -/
def Port.headerSent (port : Port) : Option (List Byte) :=
  match port.tx, port.slot with
  | some (.notice n), _ => some n.header
  | some .replyPart, some r => some r.header
  | _, _ => none

/-- The frame that a port's transmitter is sending: a notice, or the next part of the reply in the slot (R173, R181). -/
def Port.frameSent (port : Port) : Option (List Byte) :=
  match port.tx, port.slot with
  | some (.notice n), _ => some n.frameBytes
  | some .replyPart, some r => some r.frameBytes
  | _, _ => none

/-- The bits that the frame being sent takes at the port's rate (R176). -/
def Port.bitsSent (port : Port) : Option Nat :=
  port.frameSent.map fun bytes => frameBits port.inForce.parity bytes.length

/-- The levels that a port's transmitter puts on TX for the frame being sent, character after character (R170). -/
def Port.levelsSent (port : Port) : Option (List Bool) :=
  port.frameSent.map fun bytes => bytes.flatMap (characterLevels port.inForce)

end Sys2Proof.Machine
end

