-- ==== Sys2Proof/Safety.lean ====
section
/-! DEFINITION. The laws that the manual says the device keeps, as conditions on a state, and the words the statements
use: when a port takes a request, the state an answer leaves, and reception byte by byte. -/
namespace Sys2Proof.Machine

/-! ## Laws -/

/-- Each notice queue holds at most one notice of each kind (R175). -/
abbrev State.NoticesLaw (s : State) : Prop := ∀ p : PortId, ((s.ports[p]).queue.map Notice.kind).Nodup

/-- No transmitter that could begin a frame is idle: a port that sends nothing has no reply in its slot and, on FULL
duplex, no notice waiting (R176, R177). -/
abbrev State.SettledLaw (s : State) : Prop :=
  ∀ p : PortId, (s.ports[p]).tx = none →
    (s.ports[p]).slot = none ∧ ((s.ports[p]).inForce.duplex = .full → (s.ports[p]).queue = [])

/-- The mode is RUN only while no STOPPING latch is set (R157). -/
abbrev State.RunLaw (s : State) : Prop := s.router.mode = .run → s.router.anyStopping = false

/-- The law on the battery: A_ess_bat + A_tr_bat ≤ B_bat ≤ I_bat_max, and no battery budget while ISOLATED (R100). -/
abbrev State.BatteryLaw (s : State) : Prop :=
  s.allot.record.aEssBat + s.allot.record.aTrBat ≤ s.allot.record.bBat ∧
    s.allot.record.bBat ≤ s.allot.battery.iBatMax ∧
    (s.allot.batteryAvailable = false → s.allot.record.bBat = 0)

/-- The section unit's law: the table in ascending id order with at most 32 entries, and the current section and the
pending id, where there is one, in the table (R55, R56). -/
abbrev State.SectionLaw (s : State) : Prop :=
  idsAscend s.sections.table = true ∧ s.sections.table.length ≤ 32 ∧
    (∀ id, s.sections.current = some id → (s.sections.find id).isSome) ∧
    (∀ e, s.sections.expectation = some e → (s.sections.find e.pendingId).isSome)

/-- Every line share of draw but the essential one, and the line regeneration share, are 0 (R85). -/
abbrev Record.noneButEssential (r : Record) : Prop :=
  r.aCprot = 0 ∧ r.aCres = 0 ∧ r.aCfree = 0 ∧ r.aCh = 0 ∧ r.aTrLine = 0 ∧ r.aRgLine = 0

/-- The law on the line: the line shares of draw fit the line budget and the line budget the feeder limit of the section
then current; outside RUN only the essential line share is granted; without the line, none is (R85). -/
abbrev State.LineLaw (s : State) : Prop :=
  s.allot.record.aCres ≤ s.allot.record.aCfree ∧
    s.allot.record.lineDraw ≤ s.allot.record.bLine ∧
    s.allot.record.bLine ≤ s.sections.limits.iFeed ∧
    (s.router.mode ≠ .run → s.allot.record.noneButEssential) ∧
    (s.contact.contact ≠ .contact ∨ s.allot.reclose.isRunning → s.allot.record.noneButEssential ∧
      s.allot.record.aEssLine = 0)

/-- The sums a record keeps: its comfort reserve lies within its free comfort, its line shares and spare make up the line
budget, its battery shares and spare the battery budget, and the regeneration ceiling is made of its parts (R80, R82,
R105). -/
abbrev Record.Sums (r : Record) : Prop :=
  r.aCres ≤ r.aCfree ∧ r.lineDraw + r.hLine = r.bLine ∧ r.aEssBat + r.aTrBat + r.hBat = r.bBat ∧
    r.aRgAux = r.auxShares ∧ r.aRg = min 800 (r.aRgLine + r.aRgBat + r.aRgAux)

/-- Every value held or delivered lies within its channel's range (R1), and a rail count below 32 (R8, R11). -/
abbrev Measurement.Law (m : Measurement) : Prop :=
  (∀ c : Channel, (channelRange[c]).1 ≤ (m.channels[c]).held ∧ (m.channels[c]).held ≤ (channelRange[c]).2 ∧
      (m.channels[c]).railCount < 32) ∧
    ∀ set, m.latest = some set → ∀ c : Channel,
      (channelRange[c]).1 ≤ set.values[c] ∧ set.values[c] ≤ (channelRange[c]).2

/-- A pole's seat timer runs exactly while the pole is RAISING and its angle and LOSS outputs are CLEAR (R26). -/
abbrev ContactUnit.SeatLaw (u : ContactUnit) (p : Pole) : Prop :=
  (u.poles.get p).seat.isRunning = true ↔
    (u.poles.get p).state = .raising ∧ (u.monitors.get (angleMonitor p)).output = false ∧ u.monitors.loss.output = false

/-- While no reset is in progress the contact state is the one derived from its inputs (R30), the gap timer is stopped
outside GAP and LOST and expired in LOST (R31), the lowering timer is stopped while no pole is LOWERING (R28), and the
seat timers follow their conditions (R26). -/
abbrev State.ContactLaw (s : State) : Prop :=
  s.up = true →
    s.contact.contact = s.contact.derive ∧
      (s.contact.contact ≠ .gap → s.contact.contact ≠ .lost → s.contact.gapTimer = .stopped) ∧
      (s.contact.contact = .lost → s.contact.gapTimer = .expired) ∧
      (s.contact.anyLowering = false → s.contact.loweringTimer = .stopped) ∧
      s.contact.SeatLaw .pos ∧ s.contact.SeatLaw .neg

/-- A HALF-duplex port sends replies alone, and a port that sends a reply part has its reply in the slot (R173, R177). -/
abbrev State.SendingLaw (s : State) : Prop :=
  ∀ p : PortId,
    ((s.ports[p]).inForce.duplex = .half → (s.ports[p]).tx = none ∨ (s.ports[p]).tx = some .replyPart) ∧
      ((s.ports[p]).tx = some .replyPart → (s.ports[p]).slot.isSome = true)

/-- The active list holds at most one entry per key (R37) and no number twice (R39). -/
abbrev State.AlarmLaw (s : State) : Prop :=
  (s.alarm.active.map AlarmEntry.key).Nodup ∧ (s.alarm.active.map AlarmEntry.number).Nodup

/-- The law on raise orders: POLE_ORDER waits at ROOF ports alone, and none carries RAISE while the interlock is engaged
(R47). -/
abbrev State.RaiseLaw (s : State) : Prop :=
  (∀ p : PortId, s.role p ≠ .roof → ∀ n ∈ (s.ports[p]).queue, n.kind ≠ .poleOrder) ∧
    (s.alarm.interlock = true → ∀ p : PortId, Notice.poleOrder .raise ∉ (s.ports[p]).queue)

/-- An entry whose condition holds, of a pole kind, for one pole (R38, R43). -/
def AlarmEntry.holdsFor (e : AlarmEntry) (p : Pole) : Bool := e.key.pole == some p && e.state != .goneUnack

/-- A pole is DEWIRED exactly when the active list holds an entry of a pole kind for it in ACTIVE_UNACK or ACTIVE_ACK
(R43). -/
abbrev State.PoleLaw (s : State) (p : Pole) : Prop :=
  (s.contact.poles.get p).state = .dewired ↔ (s.alarm.active.any fun e => e.holdsFor p) = true

/-- A slot's record is present and in a state. -/
def Sequencer.isIn (a : Sequencer) (i : Slot) (state : AuxState) : Bool :=
  match a.table[i] with
  | some r => r.state == state
  | none => false

/-- The laws of the start queue and of the starting slot: the queue holds exactly the QUEUED records, each once, every
ESSENTIAL one ahead of every COMFORT one (R133); the starting slot holds exactly the record in STARTING (R134). -/
abbrev Sequencer.Law (a : Sequencer) : Prop :=
  a.queue.Nodup ∧ (∀ i : Slot, i ∈ a.queue ↔ a.isIn i .queued = true) ∧
    a.queue.Pairwise (fun i j => a.isEssential j = true → a.isEssential i = true) ∧
    (∀ i : Slot, a.starting = some i ↔ a.isIn i .starting = true)

/-- The stamps of the RUNNING records are 1 to their number, each once, and no other record has one (R130). -/
abbrev Sequencer.StampLaw (a : Sequencer) : Prop :=
  ∀ i : Slot, ∀ r, a.table[i] = some r →
    (r.stamp.isSome = true ↔ r.state = .running) ∧
      ∀ n, r.stamp = some n →
        1 ≤ n ∧ n ≤ a.runningCount ∧ ∀ j : Slot, ∀ q, a.table[j] = some q → q.stamp = some n → j = i

/-- No COMFORT record is in STARTING or RUNNING while the contact state is not CONTACT or the mode is not RUN (R143). -/
abbrev State.ComfortLaw (s : State) : Prop :=
  (∀ i : Slot, ((s.aux.table[i]).any AuxRecord.comfortOn) = true →
    s.contact.contact = .contact ∧ s.router.mode = .run)

/-- While a save is in flight the image is neither valid nor blank, and the image state is WRITING (R163). -/
abbrev State.SaveLaw (s : State) : Prop :=
  s.store.save.isSome = true → s.store.nv = .torn ∧ s.store.imageState = .writing

/-! ## The words of the statements -/

/-- The image is blank: every byte of the memory reads as erased, the two of the checksum included (R162). -/
abbrev NvMemory.Blank (n : NvMemory) : Prop :=
  n = .erased ∨ ∃ g c, n = .written g c ∧ c = 0xFFFF ∧ ∀ b ∈ Config.imageBytes g, b = 0xFF

/-- The memory holds a valid image: it is not blank, its checksum is the sum, modulo 65536, of the bytes of its contents,
and every field holds a value within its range (R162). -/
abbrev NvMemory.Holds (n : NvMemory) (g : Image) : Prop :=
  ¬n.Blank ∧ n = .written g (BitVec.ofNat 16 ((Config.imageBytes g).map BitVec.toNat).sum) ∧ g.inRange = true

/-- `u` is what start-up leaves of a part in state `s` whose last reset cause is `last` (R165, R167, R168): every block in
its reset state, loaded with a valid image and with the defaults otherwise, the retained memory kept unless the cause
recorded is POWER_ON, and the first mode entered. -/
def State.StartedUp (u s : State) (last : ResetCause) : Prop :=
  let cause := if s.power.retention then last else .powerOn
  let valid := ∃ g, s.store.nv.Holds g
  let blank := s.store.nv.Blank
  ∃ g : Image, (∀ x, s.store.nv.Holds x → g = x) ∧ (¬valid → g = .defaults) ∧
    u.meas = { Measurement.afterReset g with inFlight := some g.sweepPeriod } ∧
    u.contact = .afterReset g ∧ u.sections = .afterReset g ∧ u.aux = .afterReset g ∧
    u.allot = { AllotmentUnit.afterReset g u.router.mode with frameTimer := .running g.line.tF } ∧
    u.alarm = (if cause = .powerOn then ⟨[], 0, [], false, g.policy⟩
      else { s.alarm with active := [], policy := g.policy }) ∧
    u.router.routing = g.routing ∧
    (valid ∨ blank → u.router.faults =
      if cause = .powerOn then Vector.replicate 16 .cleared else s.router.faults) ∧
    u.router.mode = (if u.router.anyStopping then .halt
      else if u.store.autoRun = true ∧ cause ≠ .link ∧ u.findingsA = [] then .run
      else .setup) ∧
    u.store.nv = s.store.nv ∧ u.store.save = none ∧ u.store.resetCause = cause ∧ u.store.autoRun = g.autoRun ∧
    (blank → u.store.imageState = .blank) ∧ (valid → u.store.imageState = .valid) ∧
    (¬blank → ¬valid → u.store.imageState = .corrupt ∧ u.router.mode = .halt ∧
      (u.router.faults[14]).latch = .stopping ∧
      (u.router.faults[14]).count =
        (if cause = .powerOn then 1 else min ((s.router.faults[14]).count + 1) 65535) ∧
      ∀ i : Fin 16, i ≠ 14 → u.router.faults[i] =
        if cause = .powerOn then .cleared else s.router.faults[i]) ∧
    u.power.retention = true ∧ u.up = true ∧ u.pending = s.pending ∧
    ∀ p : PortId, (u.ports[p]).inForce = g.ports[p] ∧ (u.ports[p]).written = g.ports[p] ∧
      (u.ports[p]).receiver = .hunting ∧ (u.ports[p]).slot = none ∧ (u.ports[p]).counts = .zero

/-- A port hears a complete frame and has room for its reply: no reset is in progress, its receiver hears the line and its
reply slot is free (R171, R172). -/
abbrev State.Hears (s : State) (p : PortId) : Prop :=
  s.up = true ∧ (s.ports[p]).deaf = false ∧ (s.ports[p]).slot = none

/-- The state once an answer is given: the reply is in the slot and the transmitters have made their choice (R172, R173,
R176). -/
def State.answered (u : State) (p : PortId) (kind tag : Byte) (code : ReplyCode) (content : ReplyContent := .none) :
    State :=
  (u.enterReply p { kind := kind, tag := tag, code := code, content := content }).beginWaiting

end Sys2Proof.Machine

namespace Sys2Proof

/-- The fields of an entry of SECTION_WRITE are within their ranges (R55, R58). -/
def SectionFields.ranged (f : SectionFields) : Bool :=
  decide (1 ≤ f.id.toNat ∧ f.id.toNat ≤ 4095 ∧ f.iFeed.toNat ≤ 1000 ∧ f.iRgmax.toNat ≤ 800 ∧ f.permitted.toNat ≤ 1 ∧
    (f.override = 0 ∨ (100 ≤ f.override.toNat ∧ f.override.toNat ≤ 5000)))

/-- The table entry that the fields carry (R55, R181). -/
def SectionFields.entry (f : SectionFields) : Machine.SectionEntry :=
  { id := f.id.toNat, iFeed := f.iFeed.toNat, iRgmax := f.iRgmax.toNat, permitted := f.permitted == 1
    gapOverride := if f.override = 0 then none else some f.override.toNat }

end Sys2Proof

namespace Sys2Proof.Machine

/-- Everything in flight is abandoned and all else kept, against the state before (R165): the sweep, every timer, a save,
the expectation, and each port's reception, transmission, reply and notices. -/
def State.Abandoned (t s : State) : Prop :=
  t.meas = { s.meas with inFlight := none } ∧
    t.contact = { s.contact with
      poles := { pos := { s.contact.poles.pos with seat := .stopped }, neg := { s.contact.poles.neg with seat := .stopped } }
      gapTimer := .stopped, loweringTimer := .stopped } ∧
    t.alarm = s.alarm ∧ t.sections = { s.sections with expectation := none } ∧
    t.allot = { s.allot with frameTimer := .stopped, reclose := .stopped } ∧
    t.aux = { s.aux with table := t.aux.table, stall := .stopped } ∧
    (∀ i : Slot, t.aux.table[i] = (s.aux.table[i]).map fun r =>
      { r with inrush := .stopped, onTimer := .stopped, runTimer := .stopped, offInhibit := .stopped }) ∧
    t.router = s.router ∧ t.store = { s.store with save := none } ∧ t.pending = s.pending ∧
    ∀ p : PortId, t.ports[p] = { s.ports[p] with receiver := .hunting, slot := none, queue := [], tx := none }

/-- The bytes of a line arrive at a port's receiver one after another, none with an error. -/
def receive (p : PortId) : List Byte → State → Host.Outcome State Fault Refusal
  | [], s => .next s
  | b :: rest, s =>
    match exec (.byteReceived p b false) s with
    | .next t => receive p rest t
    | o => o

end Sys2Proof.Machine
end

