-- ==== Sys2Proof/Certificates/Slice0/Obligations.lean ====
section
/-! DEFINITION. What is to be proved of the KG240: what each command does, by the rules of the manual, and the laws that
every step keeps. In the statements about requests `h` is the state whose receiver at the port hunts again (R171), and
`answered` puts the reply into the port's slot and lets the transmitters choose (R173, R176). -/

open Sys2Proof Sys2Proof.Machine


/-! ## The queue, idling, and a reset in progress -/

/-- One step runs the command at the front of the queue, on the state with the queue's rest. -/
def Obligations.StepTakesTheFrontCommand : Prop :=
  ∀ (i : Instr) (rest : List Instr) (s : State),
    step { s with pending := i :: rest } = exec i { s with pending := rest }

/-- With no command waiting a millisecond passes: every running timer has one less to run and rests at 0, a receiver
in a frame has one less of its gap, a save in flight is one older, to 250, and nothing else changes. The model's
choice (log 2): the manual has no command for the passing of time. -/
def Obligations.IdleStepIsOneMillisecond : Prop :=
  ∀ s : State, s.pending = [] →
    let later (x y : Timer) : Prop := (∀ n, x = .running n → y = .running (n - 1)) ∧ (x.isRunning = false → y = x)
    ∃ t, step s = .next t ∧ t.pending = [] ∧ t.meas = s.meas ∧ t.alarm = s.alarm ∧ t.router = s.router ∧
      t.contact = { s.contact with
        poles := t.contact.poles, gapTimer := t.contact.gapTimer, loweringTimer := t.contact.loweringTimer } ∧
      later s.contact.gapTimer t.contact.gapTimer ∧ later s.contact.loweringTimer t.contact.loweringTimer ∧
      (∀ p : Pole, t.contact.poles.get p = { s.contact.poles.get p with seat := (t.contact.poles.get p).seat } ∧
        later (s.contact.poles.get p).seat (t.contact.poles.get p).seat) ∧
      t.sections = { s.sections with expectation := t.sections.expectation } ∧
      (s.sections.expectation = none → t.sections.expectation = none) ∧
      (∀ e, s.sections.expectation = some e →
        ∃ w, t.sections.expectation = some { e with window := w } ∧ later e.window w) ∧
      t.allot = { s.allot with frameTimer := t.allot.frameTimer, reclose := t.allot.reclose } ∧
      later s.allot.frameTimer t.allot.frameTimer ∧ later s.allot.reclose t.allot.reclose ∧
      t.aux = { s.aux with table := t.aux.table, stall := t.aux.stall } ∧ later s.aux.stall t.aux.stall ∧
      (∀ i : Slot, (s.aux.table[i] = none → t.aux.table[i] = none) ∧
        ∀ r, s.aux.table[i] = some r → ∃ q, t.aux.table[i] = some q ∧
          q = { r with inrush := q.inrush, onTimer := q.onTimer, runTimer := q.runTimer, offInhibit := q.offInhibit } ∧
          later r.inrush q.inrush ∧ later r.onTimer q.onTimer ∧ later r.runTimer q.runTimer ∧
          later r.offInhibit q.offInhibit) ∧
      t.store = { s.store with save := s.store.save.map fun v => ⟨v.snapshot, min 250 (v.elapsed + 1)⟩ } ∧
      t.power = { s.power with stableWait := t.power.stableWait } ∧ later s.power.stableWait t.power.stableWait ∧
      (∀ p : PortId, t.ports[p] = { s.ports[p] with receiver := (t.ports[p]).receiver } ∧
        ((s.ports[p]).receiver = .hunting → (t.ports[p]).receiver = .hunting) ∧
        ∀ n body gap, (s.ports[p]).receiver = .inFrame n body gap → (t.ports[p]).receiver = .inFrame n body (gap - 1))

/-- No command faults or is refused, and none touches the queue. During a reset nothing but the supply's and RESETN's
events does anything (log 4). -/
def Obligations.EveryCommandAnswersAState : Prop :=
  (∀ (i : Instr) (s : State), ∃ t, exec i s = .next t ∧ t.pending = s.pending) ∧
  (∀ (i : Instr) (s : State), s.up = false →
    i ∉ [.powerOn, .supplyLow, .retentionLost, .supplyStableExpiry, .pinResetAssert, .pinResetRelease] →
      exec i s = .next s)

/-! ## Resets and start-up (chapter 11) -/

/-- The four events that begin or lengthen a reset, and the loss of retention: each hold and the cause taken last are
recorded, and what is in flight is abandoned (R165). That every other field keeps its value while the reset lasts is
the model's choice (log 23), and so is what POWER_ON and RETENTION_LOST do to the retention flag and the 10 ms wait
(log 12); a second RESETN assert does nothing, which is the model's too (log 12). A cause that goes while the other
still holds leaves the part in reset (R165). -/
def Obligations.ResetCausesHoldThePart : Prop :=
  (∀ s : State,
    (∃ t, exec .powerOn s = .next t ∧ t.Abandoned s ∧
      t.power = ⟨true, s.power.pinHold, .running 10, .powerOn, false⟩) ∧
    (∃ t, exec .supplyLow s = .next t ∧ t.Abandoned s ∧
      t.power = ⟨true, s.power.pinHold, .running 10, .supplyLow, s.power.retention⟩) ∧
    (s.power.pinHold = false → ∃ t, exec .pinResetAssert s = .next t ∧ t.Abandoned s ∧
      t.power = { s.power with pinHold := true, lastCause := .pin }) ∧
    (s.power.pinHold = true → exec .pinResetAssert s = .next s) ∧
    exec .retentionLost s = .next { s with power := { s.power with retention := false } }) ∧
  (∀ s : State,
    (s.power.supplyHold = true → s.power.stableWait.isRunning = true → s.power.pinHold = true →
      exec .supplyStableExpiry s =
        .next { s with power := { s.power with supplyHold := false, stableWait := .stopped } }) ∧
    (s.power.pinHold = true → s.power.supplyHold = true →
      exec .pinResetRelease s = .next { s with power := { s.power with pinHold := false } }))

/-- When the last cause has gone, start-up puts every block into its reset state, loaded from a valid image and from
the defaults otherwise, with the retained memory kept unless the cause is POWER_ON (R162, R165, R167; R13, R35, R54,
R68, R95, R111, R139, R161, R179); the first mode is HALT on a STOPPING latch, RUN on auto-run with a valid plan and a
cause other than LINK, and SETUP otherwise (R168). A corrupt image latches CONFIG_CORRUPT STOPPING and counts it
(R167). How the fields of an image stand in its bytes is open (log 10). -/
def Obligations.StartUpLoadsEveryBlock : Prop :=
  ∀ (c : Instr) (s : State),
    (c = .pinResetRelease ∧ s.power.pinHold = true ∧ s.power.supplyHold = false ∨
      c = .supplyStableExpiry ∧ s.power.supplyHold = true ∧ s.power.stableWait.isRunning = true ∧
        s.power.pinHold = false) →
    ∃ u : State, exec c s = .next u ∧ u.StartedUp s s.power.lastCause

/-- The start-up of a part with a blank image that has lost its retained memory ends in the model's reset state,
whatever went before. That the image is blank is the model's choice for State.reset (log 1). -/
def Obligations.PowerOnWithBlankImageReachesReset : Prop :=
  ∀ s t : State, s.store.nv = .erased → s.power.pinHold = false → exec .powerOn s = .next t →
    exec .supplyStableExpiry t = .next { State.reset with pending := s.pending }

/-- The reset state has the values that the manual gives after a POWER_ON reset with a blank image; the image being
blank is the model's choice (log 1). The reset state meets every law that the statements below say each step keeps. -/
def Obligations.ResetStateHasItsValues : Prop :=
  (let s := State.reset
  s.meas.number = 0 ∧ s.meas.latest = none ∧ s.meas.period = 2 ∧ s.meas.staged = none ∧
    s.contact.contact = .offWire ∧ s.contact.poles.pos.state = .unknown ∧ s.contact.poles.neg.state = .unknown ∧
    s.alarm.active = [] ∧ s.alarm.counter = 0 ∧ s.alarm.history = [] ∧
    s.sections.current = none ∧ s.sections.table = [] ∧ s.allot.frame = 0 ∧ s.allot.line.tF = 10 ∧
    s.allot.record = .afterReset .setup ∧ s.allot.batteryAvailable = false ∧ s.allot.demand = none ∧
    s.allot.inhibit = none ∧ s.aux.queue = [] ∧ s.aux.starting = none ∧ s.aux.totals = ⟨0, 0, 0⟩ ∧
    s.router.mode = .setup ∧ s.router.anyStopping = false ∧ s.store.imageState = .blank ∧
    s.store.resetCause = .powerOn ∧ (s.role 0 = .cab ∧ s.role 1 = .traction ∧ s.role 2 = .auxiliary ∧ s.role 3 = .roof)) ∧
  (let s := State.reset
  s.NoticesLaw ∧ s.SettledLaw ∧ s.SendingLaw ∧ s.meas.Law ∧ s.ContactLaw ∧ s.AlarmLaw ∧ s.PoleLaw .pos ∧
    s.PoleLaw .neg ∧ s.RaiseLaw ∧ s.SectionLaw ∧ s.allot.record.Sums ∧ s.LineLaw ∧ s.BatteryLaw ∧ s.aux.Law ∧
    s.aux.StampLaw ∧ s.ComfortLaw ∧ s.RunLaw ∧ s.SaveLaw)

/-- A reset taken while a save is in flight, whichever of the four kinds it is, leaves the image corrupt: after it the
part is in HALT with CONFIG_CORRUPT latched STOPPING, no save in flight and every setting at its default (R163, R165,
R166, R167, R168). The LINK reset is taken so from the RESET itself, which abandons the save, to the end of its reply,
and also where a SAVE has been taken after the RESET. -/
def Obligations.ResetDuringSaveFindsTheImageCorrupt : Prop :=
  ∀ s u : State, s.up = true → s.SaveLaw → s.store.save.isSome = true →
    ((∃ begins ends t, (begins, ends) ∈ [(Instr.powerOn, Instr.supplyStableExpiry),
          (Instr.supplyLow, Instr.supplyStableExpiry), (Instr.pinResetAssert, Instr.pinResetRelease)] ∧
        exec begins s = .next t ∧ exec ends t = .next u) ∨
      (∃ (p : PortId) (r : ReplySlot), (s.ports[p]).tx = some .replyPart ∧ (s.ports[p]).slot = some r ∧
        r.parts ≤ r.sent + 1 ∧ r.reply.kind = 0x31 ∧ r.reply.code = .ok ∧ exec (.transmitComplete p) s = .next u) ∨
      (∃ (p : PortId) (tag : Byte) (t : State), s.Hears p ∧ s.role p = .cab ∧ s.router.mode ≠ .run ∧
        (s.ports[p]).tx = none ∧ exec (.reset p tag) s = .next t ∧ exec (.transmitComplete p) t = .next u)) →
      u.store.imageState = .corrupt ∧ u.store.save = none ∧ u.router.mode = .halt ∧
        (u.router.faults[14]).latch = .stopping ∧ u.settingsImage = Image.defaults

/-- When the last part of an accepted RESET's reply has been sent the LINK reset begins and ends at once: start-up
leaves every block in its reset state, loaded as after any other reset, with the cause LINK unless the retained memory
has lost its supply; with the cause LINK the mode is HALT or SETUP, never RUN (R165, R166, R167, R168). Where another
port's RESET has been accepted too, that the reply ending first begins the reset is the model's choice (log 35). -/
def Obligations.LinkResetFollowsItsReply : Prop :=
  ∀ (p : PortId) (s : State) (r : ReplySlot), s.up = true → (s.ports[p]).tx = some .replyPart →
    (s.ports[p]).slot = some r → r.parts ≤ r.sent + 1 → r.reply.kind = 0x31 → r.reply.code = .ok →
      ∃ t, exec (.transmitComplete p) s = .next t ∧ t.StartedUp s .link ∧
        (s.power.retention = true → t.store.resetCause = .link ∧ t.router.mode ≠ .run)

/-! ## Link ports (chapter 12) -/

/-- Every request, written out as the body of its frame, is read back as that request, at every value of every field,
and its body fits a frame (R171, R181). -/
def Obligations.EncodedRequestIsReadBack : Prop :=
  ∀ (i : Instr) (p : PortId) (body : List Byte), i.wellFormed = true → bodyOf i = some (p, body) →
    readBody p body = .request i ∧ 2 ≤ body.length ∧ body.length ≤ 60

/-- The bytes of a frame, received one after another at a port whose receiver hunts and hears them, come to the same
state as the command that the body spells, taken whole: a request, an unnamed kind, or a body whose length does not
match its kind, which is answered FORMAT, or counted as an overrun where the slot is occupied (R171, R172). That the
frame taken whole is one command beside its bytes is the model's reading (log 5). -/
def Obligations.ReceivedFrameIsTakenWhole : Prop :=
  ∀ (p : PortId) (body : List Byte) (s : State), 2 ≤ body.length → body.length ≤ 60 →
    s.up = true → s.SettledLaw → (s.ports[p]).receiver = .hunting → (s.ports[p]).deaf = false →
      receive p (frameOf body) s = match readBody p body with
        | .request i => exec i s
        | .unknown kind tag => exec (.unknownRequest p tag kind) s
        | .badLength kind tag =>
          if (s.ports[p]).slot = none then .next ((s.hunt p).answered p kind tag .format)
          else .next ((s.hunt p).countOverrun p).beginWaiting

/-- A byte at a receiver, in each of its states short of a complete frame (R171): what it goes on with, or the count
that an abandoned frame increases. The gap timer's expiry in a frame, and a frame that fails, are counted and not
answered (R171). A gap timer that expires while the receiver hunts does nothing (log 3), and a failed frame counts in
either state of the receiver (log 5). -/
def Obligations.ReceiverTakesEachByte : Prop :=
  (∀ (p : PortId) (b : Byte) (error : Bool) (s : State), s.up = true →
    let port := s.ports[p]
    let goOn (r : Receiver) : State := (s.setPort p { port with receiver := r }).beginWaiting
    let fail (c : PortCounts) : State := (s.setPort p { port with receiver := .hunting, counts := c }).beginWaiting
    let checkError : PortCounts := { port.counts with check := min (port.counts.check + 1) 65535 }
    (port.deaf = true → exec (.byteReceived p b error) s = .next s.beginWaiting) ∧
    (port.deaf = false →
      (error = true → exec (.byteReceived p b error) s =
        .next (fail { port.counts with line := min (port.counts.line + 1) 65535 })) ∧
      (error = false →
        (port.receiver = .hunting → exec (.byteReceived p b error) s =
          .next (if b = 0xA5 then goOn (.inFrame none [] 2) else s.beginWaiting)) ∧
        (∀ body gap, port.receiver = .inFrame none body gap → exec (.byteReceived p b error) s =
          .next (if 2 ≤ b.toNat ∧ b.toNat ≤ 60 then goOn (.inFrame (some b.toNat) [] 2) else fail checkError)) ∧
        (∀ n body gap, port.receiver = .inFrame (some n) body gap → body.length < n →
          exec (.byteReceived p b error) s = .next (goOn (.inFrame (some n) (body ++ [b]) 2))) ∧
        (∀ n body gap, port.receiver = .inFrame (some n) body gap → n ≤ body.length →
          b ≠ 255 - byteSum (BitVec.ofNat 8 body.length :: body) →
          exec (.byteReceived p b error) s = .next (fail checkError))))) ∧
  (∀ (p : PortId) (s : State), s.up = true →
    let port := s.ports[p]
    let fail (c : PortCounts) : State := (s.setPort p { port with receiver := .hunting, counts := c }).beginWaiting
    (port.receiver = .hunting → exec (.receiveGapTimeout p) s = .next s.beginWaiting) ∧
    (∀ n body gap, port.receiver = .inFrame n body gap → exec (.receiveGapTimeout p) s =
      .next (fail { port.counts with timeout := min (port.counts.timeout + 1) 65535 })) ∧
    (port.deaf = false →
      exec (.frameCheckFailed p .byteError) s =
        .next (fail { port.counts with line := min (port.counts.line + 1) 65535 }) ∧
      ∀ f : FrameFailure, f ≠ .byteError → exec (.frameCheckFailed p f) s =
        .next (fail { port.counts with check := min (port.counts.check + 1) 65535 })))

/-- A complete frame by the lines of R172 ahead of the dispatch: an occupied reply slot counts an overrun and answers
nothing, whatever kind the frame names, an unnamed kind is answered UNKNOWN, a bad length FORMAT, a kind outside the
role's permissions ROLE_REFUSED; and the permissions themselves. That each of these three replies bears the kind byte
of the frame it answers, an unnamed kind byte too, and has no content, is read from R173 and R181 by inference
(DEDUCED, log 24). -/
def Obligations.FramesAreTakenInOrder : Prop :=
  (∀ (i : Instr) (p : PortId) (kind tag : Byte) (payload : List Byte) (s : State),
    bodyOf i = some (p, kind :: tag :: payload) → s.up = true → (s.ports[p]).deaf = false →
      let h := s.hunt p
      ((s.ports[p]).slot.isSome = true → exec i s =
        .next (h.setPort p { h.ports[p] with
          counts := { h.ports[p].counts with overrun := min (h.ports[p].counts.overrun + 1) 65535 } }).beginWaiting) ∧
      ((s.ports[p]).slot = none → i.wellFormed = true → (s.role p).permits kind = false →
        exec i s = .next (h.answered p kind tag .roleRefused))) ∧
  (∀ (p : PortId) (tag kind : Byte) (s : State), s.up = true → (s.ports[p]).deaf = false →
    (s.ports[p]).slot.isSome = true →
      let h := s.hunt p
      exec (.unknownRequest p tag kind) s =
        .next (h.setPort p { h.ports[p] with
          counts := { h.ports[p].counts with overrun := min (h.ports[p].counts.overrun + 1) 65535 } }).beginWaiting) ∧
  (∀ (p : PortId) (tag kind : Byte) (s : State), s.Hears p → kindUnnamed kind = true →
    exec (.unknownRequest p tag kind) s = .next ((s.hunt p).answered p kind tag .unknown)) ∧
  (∀ (p : PortId) (tag : Byte) (es : List SectionFields) (s : State), s.Hears p → (es = [] ∨ 4 < es.length) →
    exec (.sectionWrite p tag es) s = .next ((s.hunt p).answered p 0x23 tag .format)) ∧
  (∀ (role : Role), ∀ kind ∈ requestKinds, role.permits kind = true ↔
    kind.toNat ≤ 0x0B ∨ (role = .traction ∧ kind = 0x10) ∨ (role = .auxiliary ∧ (kind = 0x18 ∨ kind = 0x19)) ∨
      (role = .cab ∧ kind ≠ 0x10 ∧ kind ≠ 0x18 ∧ kind ≠ 0x19 ∧ 0x0B < kind.toNat))

/-- The end of a transmission (R173, R176): a notice's leaves the transmitter idle, a reply part's goes on to the next
part or frees the slot after the last, and the transmitters choose again. The reply of an accepted RESET is another
statement's. An end of what is not being sent does nothing (log 3). The transmitter's choice (R176, R177): a busy one
goes on; an idle one begins the reply in the slot; with the slot free a FULL-duplex one begins the oldest notice,
which leaves the queue, and a HALF-duplex one begins none. A notice joins a queue at its end, or, where its kind waits
already, updates that entry in place; an EVENT entry adds the new kind to its mask and takes the new event, and an
entry of another kind takes the new content (R175). What a transmitter sends opens with its header: a notice with its
kind byte and tag 0, a reply part with the request's kind + 0x80, its tag, the reply code and the part byte, whose
index counts from 0 by the model's choice (log 32), and for a kind byte of 0x80 or above the sum taken modulo 256, the
model's choice too (log 36); an ALLOTMENT frame has 61 bytes, and no frame more than 63 (R173, R181). A reply's parts
carry its content in consecutive slices of 56 bytes at most, joined the whole content as far as they hold it; where it
is cut is free (R173; log 6). A reply is sent in one part where its content fits one frame, and otherwise in no fewer
than hold it, 15 at most (R173; log 6). A character is a start bit, the 8 data bits least significant first, the
parity bit that makes the ones even or odd, and a stop bit, each level inverted by inverted polarity; a receiver with
the same settings reads the byte back without error, and with parity one wrong level after the start bit is a parity
or framing error (R170, R171). That the start bit is 0 and the stop bit 1 is the model's (log 34). -/
def Obligations.TransmittersServeReplyAndQueue : Prop :=
  (∀ (p : PortId) (s : State), s.up = true →
    let port := s.ports[p]
    (port.tx = none → exec (.transmitComplete p) s = .next s.beginWaiting) ∧
    (∀ n, port.tx = some (.notice n) →
      exec (.transmitComplete p) s = .next (s.setPort p { port with tx := none }).beginWaiting) ∧
    (∀ r, port.tx = some .replyPart → port.slot = some r →
      (r.sent + 1 < r.parts → exec (.transmitComplete p) s =
        .next (s.setPort p { port with tx := none, slot := some { r with sent := r.sent + 1 } }).beginWaiting) ∧
      (r.parts ≤ r.sent + 1 → ¬(r.reply.kind = 0x31 ∧ r.reply.code = .ok) → exec (.transmitComplete p) s =
        .next (s.setPort p { port with tx := none, slot := none }).beginWaiting))) ∧
  (∀ (p : PortId) (s : State),
    let port := s.ports[p]
    let after := s.beginWaiting.ports[p]
    (port.tx.isSome = true → after = port) ∧
    (port.tx = none → port.slot.isSome = true → after = { port with tx := some .replyPart }) ∧
    (port.tx = none → port.slot = none → port.inForce.duplex = .full → ∀ n rest, port.queue = n :: rest →
      after = { port with tx := some (.notice n), queue := rest }) ∧
    (port.tx = none → port.slot = none → (port.inForce.duplex = .half ∨ port.queue = []) → after = port)) ∧
  (∀ (n : Notice) (q : List Notice),
    (n.kind ∉ q.map Notice.kind → enqueue n q = q ++ [n]) ∧
    (∀ a m b, q = a ++ m :: b → n.kind ∉ a.map Notice.kind → m.kind = n.kind →
      (∀ k e acted k' e' acted', m = .event k e acted → n = .event k' e' acted' →
        enqueue n q = a ++ .event (k ||| k') e' acted' :: b) ∧
      (n.kind ≠ .event → enqueue n q = a ++ n :: b))) ∧
  ((∀ port : Port,
    (∀ n, port.tx = some (.notice n) → ∃ payload : List Byte,
      let kind : Byte := match n.kind with
        | .allotment => 0x60 | .contact => 0x61 | .alarm => 0x62 | .poleOrder => 0x63 | .auxOrders => 0x64
        | .event => 0x65 | .mode => 0x66
      port.headerSent = some [kind, 0] ∧ port.frameSent = some (frameOf (kind :: 0 :: payload)) ∧ payload.length ≤ 58 ∧
        ∀ r, n = .allotment r → payload = r.payload ∧ payload.length = 56)) ∧
  (∀ (reply : Reply) (n : Nat), ∃ contents : List (List Byte), contents.length = n ∧
    (∀ content ∈ contents, content.length ≤ 56) ∧
    contents.flatten = (if reply.content = .none then [] else Config.contentBytes reply.content).take (56 * n) ∧
    ∀ (port : Port) (k : Nat), port.tx = some .replyPart → port.slot = some ⟨reply, n, k⟩ →
      let header : List Byte := [reply.kind + 0x80, reply.tag, reply.code.value, BitVec.ofNat 8 (16 * k + n)]
      port.headerSent = some header ∧
        port.frameSent = some (frameOf (header ++ (contents[k]?).getD []))) ∧
  (∀ r : Reply,
    let length := (Config.contentBytes r.content).length
    1 ≤ r.parts ∧ r.parts ≤ 15 ∧
    (56 < length ∨ r.parts = 1) ∧
    (r.content = .none ∨ (∃ n, r.content = .poll none n) ∨ (∃ n, r.content = .alarms n none) → r.parts = 1) ∧
    (r.content.isShort = true ∨ min length 840 ≤ 56 * r.parts))) ∧
  (∀ (set : PortSettings) (b : Byte),
    let levels := characterLevels set b
    let data := [b.getLsbD 0, b.getLsbD 1, b.getLsbD 2, b.getLsbD 3, b.getLsbD 4, b.getLsbD 5, b.getLsbD 6, b.getLsbD 7]
    let ones (bits : List Bool) : Nat := bits.count true
    (set.polarity = .normal → set.parity = .none → levels = false :: data ++ [true]) ∧
    (set.polarity = .normal → set.parity = .even →
      ∃ x, levels = false :: data ++ [x, true] ∧ ones (data ++ [x]) % 2 = 0) ∧
    (set.polarity = .normal → set.parity = .odd →
      ∃ x, levels = false :: data ++ [x, true] ∧ ones (data ++ [x]) % 2 = 1) ∧
    (set.polarity = .inverted → levels = (characterLevels { set with polarity := .normal } b).map not) ∧
    readCharacter set levels = some (b, false) ∧
    (set.parity ≠ .none → ∀ k, 1 ≤ k → k ≤ 10 → ∃ c, readCharacter set (levels.modify k not) = some (c, true)) ∧
    (set.parity = .none → readCharacter set (levels.modify 9 not) = some (b, true)))

/-- POLL takes the oldest notice of a HALF-duplex port and returns it with the number left; on a FULL-duplex port, or
with the queue empty, it returns no notice and the number waiting (R177). Every role may ask. PORT_STATUS reports a
port's settings in force and written, its counts, its slot and its waiting kinds, and with the clear flag 1 the counts
become 0 (R178). Every role may ask. The slot it reports is the one before its own reply (log 14). -/
def Obligations.PollAndPortStatusReport : Prop :=
  (∀ (p : PortId) (tag : Byte) (s : State), s.Hears p →
    let h := s.hunt p
    (∀ n rest, (s.ports[p]).inForce.duplex = .half → (s.ports[p]).queue = n :: rest →
      exec (.poll p tag) s =
        .next ((h.setPort p { h.ports[p] with queue := rest }).answered p 0x0B tag .ok (.poll (some n) rest.length))) ∧
    ((s.ports[p]).inForce.duplex = .full ∨ (s.ports[p]).queue = [] →
      exec (.poll p tag) s = .next (h.answered p 0x0B tag .ok (.poll none (s.ports[p]).queue.length)))) ∧
  (∀ (p : PortId) (tag named clear : Byte) (s : State), s.Hears p →
    let h := s.hunt p
    (3 < named.toNat → exec (.portStatus p tag named clear) s = .next (h.answered p 0x0A tag .noSuch)) ∧
    ∀ q : PortId, q.val = named.toNat →
      (1 < clear.toNat → exec (.portStatus p tag named clear) s = .next (h.answered p 0x0A tag .format)) ∧
      (clear.toNat ≤ 1 → exec (.portStatus p tag named clear) s =
        .next ((if clear = 1 then h.setPort q { h.ports[q] with counts := ⟨0, 0, 0, 0⟩ } else h).answered p 0x0A tag .ok
          (.portStatus
            { inForce := (s.ports[q]).inForce, written := (s.ports[q]).written, counts := (s.ports[q]).counts
              slotOccupied := (s.ports[q]).slot.isSome, waiting := (s.ports[q]).queue.map Notice.kind }))))

/-- Every step keeps the law on the notice queues: at most one notice of each kind waits at a port (R175). Every step
leaves no transmitter idle that could begin a frame (R176, R177). Every step keeps HALF-duplex ports from sending
notices, and a reply in the slot while one of its parts is sent (R173, R177). -/
def Obligations.PortLawsAreKept : Prop :=
  (∀ s t : State, s.NoticesLaw → step s = .next t → t.NoticesLaw) ∧
  (∀ s t : State, s.SettledLaw → step s = .next t → t.SettledLaw) ∧
  (∀ s t : State, s.SendingLaw → step s = .next t → t.SendingLaw)

/-! ## The reads -/

/-- READ_ALLOTMENT, READ_CONTACT and READ_MEASURE, from a port of any role, report the block's state as it stands and
change none (R12, R34, R94, R110, R121). READ_ALARMS, READ_HISTORY and READ_SECTION, from a port of any role, report
the entry at the position named, in list, history or id order; at or beyond the number of entries they are answered
NO_SUCH with what their rules still give (R49, R53, R66). READ_FAULTS and READ_AUX, from a port of any role, report
the entry of the kind or the record of the slot named, with the mode and every latch, and with each record's state, a
SHED one with its want and off-inhibit timer (log 33), the queue, the starting slot and the totals; a kind outside
1..16 or a slot above 11 is answered NO_SUCH without the entry or the record (R138, R147, R156). -/
def Obligations.ReadsReportAndChangeNothing : Prop :=
  (∀ (p : PortId) (tag : Byte) (s : State), s.Hears p →
    let h := s.hunt p
    let u := s.allot
    let c := s.contact
    let report (m : Monitor) : MonitorReport := ⟨m.state, m.detected, m.filter, m.cls⟩
    exec (.readAllotment p tag) s = .next (h.answered p 0x01 tag .ok (.allotment
      { record := u.record, frame := u.frame, period := u.line.tF, staged := u.stagedTf, n := u.acc.n
        reclose := u.reclose, sag := u.sag, cutMark := u.cutMark, batteryAvailable := u.batteryAvailable
        boost := u.battery.boost, charge := u.battery.charge, overvoltRead := u.overvoltRead, demand := u.demand
        inhibit := u.inhibit, overdraw := u.overdraw, warn := u.warn, persist := u.persist
        afterCut := u.afterCut })) ∧
    exec (.readContact p tag) s = .next (h.answered p 0x02 tag .ok (.contact
      { contact := c.contact, gapTimer := c.gapTimer
        monitors := ⟨report c.monitors.loss, report c.monitors.anglePos, report c.monitors.angleNeg,
          report c.monitors.overvolt⟩
        poles := c.poles, loweringTimer := c.loweringTimer })) ∧
    ∃ faults rails, (∀ k : Channel, faults[k] = (s.meas.channels[k]).fault ∧ rails[k] = (s.meas.channels[k]).railCount) ∧
      exec (.readMeasure p tag) s = .next (h.answered p 0x08 tag .ok (.measure
        { period := s.meas.period, latest := s.meas.latest, faults := faults, railCounts := rails
          calib := s.meas.calib }))) ∧
  (∀ (p : PortId) (tag position : Byte) (s : State), s.Hears p →
    let h := s.hunt p
    let n := position.toNat
    let u := s.sections
    let report (e : Option SectionEntry) : ReplyContent := .sections
      { count := u.table.length, current := u.current, limits := u.limits, expectation := u.expectation
        settings := u.settings, entry := e }
    (∀ e, s.alarm.active[n]? = some e → exec (.readAlarms p tag position) s =
      .next (h.answered p 0x03 tag .ok (.alarms s.alarm.active.length (some (s.alarm.interlock, e))))) ∧
    (s.alarm.active.length ≤ n → exec (.readAlarms p tag position) s =
      .next (h.answered p 0x03 tag .noSuch (.alarms s.alarm.active.length none))) ∧
    (∀ e, s.alarm.history[n]? = some e → exec (.readHistory p tag position) s =
      .next (h.answered p 0x04 tag .ok
        (.history s.alarm.history.length s.alarm.policy s.alarm.historyFull (some e)))) ∧
    (s.alarm.history.length ≤ n → exec (.readHistory p tag position) s =
      .next (h.answered p 0x04 tag .noSuch
        (.history s.alarm.history.length s.alarm.policy s.alarm.historyFull none))) ∧
    (∀ e, u.table[n]? = some e → exec (.readSection p tag position) s =
      .next (h.answered p 0x07 tag .ok (report (some e)))) ∧
    (u.table.length ≤ n → exec (.readSection p tag position) s =
      .next (h.answered p 0x07 tag .noSuch (report none)))) ∧
  (∀ (p : PortId) (tag b : Byte) (s : State), s.Hears p →
    let h := s.hunt p
    let a := s.aux
    (∃ latches : Vector Latch 16, (∀ i : Fin 16, latches[i] = (s.router.faults[i]).latch) ∧
      (∀ k : EventKind, k.index.val + 1 = b.toNat → exec (.readFaults p tag b) s =
        .next (h.answered p 0x05 tag .ok
          (.faults s.router.mode latches (some (s.router.faults[k.index], s.router.routing[k.index]))))) ∧
      (b = 0 ∨ 16 < b.toNat → exec (.readFaults p tag b) s =
        .next (h.answered p 0x05 tag .noSuch (.faults s.router.mode latches none)))) ∧
    ∃ states : Vector (Option AuxStateReport) 12,
      let aux (record : Option (Option AuxRecord)) : ReplyContent := .aux
        { record := record, states := states, queue := a.queue, starting := a.starting, stall := a.stall
          totals := a.totals, orders := a.orders, startWaitMax := a.settings.startWaitMax
          shortfallCount := a.shortfallCount, shedFrames := a.settings.shedFrames, essentialShort := a.essentialShort }
      (∀ i : Slot, (a.table[i] = none → states[i] = none) ∧ ∀ r, a.table[i] = some r →
        states[i] = some ⟨r.state, if r.state = .shed then some (r.want, r.offInhibit) else none⟩) ∧
      (∀ i : Slot, i.val = b.toNat →
        exec (.readAux p tag b) s = .next (h.answered p 0x06 tag .ok (aux (some a.table[i])))) ∧
      (11 < b.toNat → exec (.readAux p tag b) s = .next (h.answered p 0x06 tag .noSuch (aux none))))

/-- READ_ITEM, from a port of any role, gives the most recently accepted value of an item of the table, staged or
written where it is not yet in force, with the value in force for the sweep period, T_f and the port items; a number
outside the table is answered NO_SUCH (R180). -/
def Obligations.ReadItemGivesTheAcceptedValue : Prop :=
  ∀ (p : PortId) (tag : Byte) (item : Half) (s : State), s.Hears p →
    let h := s.hunt p
    let gives (value : Nat) (inForce : Option Nat) : Prop :=
      exec (.readItem p tag item) s = .next (h.answered p 0x09 tag .ok (.item value inForce))
    (Item.ofNumber item.toNat = none → exec (.readItem p tag item) s = .next (h.answered p 0x09 tag .noSuch)) ∧
    (∀ i, Item.ofNumber item.toNat = some i → gives (i.read s) (i.readInForce s)) ∧
    (∀ c : Channel, item.toNat = 1 + c.val → gives (s.meas.calib[c]).offset none) ∧
    (∀ c : Channel, item.toNat = 9 + c.val → gives (s.meas.calib[c]).gain none) ∧
    (item = 17 → gives (s.meas.staged.getD s.meas.period) (some s.meas.period)) ∧
    (item = 20 → gives s.contact.settings.vLoss none) ∧
    (item = 48 → gives s.sections.settings.iFeedDefault none) ∧
    (item = 56 → gives (s.allot.stagedTf.getD s.allot.line.tF) (some s.allot.line.tF)) ∧
    (item = 66 → gives s.allot.battery.iBatMax none) ∧
    (item = 80 → gives s.allot.demandSettings.holdFrames none) ∧
    (item = 89 → gives s.aux.settings.shedFrames none) ∧
    (item = 96 → gives (if s.store.autoRun then 1 else 0) none) ∧
    (∀ q : PortId, item.toNat = 116 + q.val →
      gives (s.ports[q]).written.role.number (some (s.ports[q]).inForce.role.number)) ∧
    (item = 120 → gives s.store.resetCause.number none) ∧
    (item = 121 → gives s.store.imageState.number none) ∧
    (item = 122 → gives (match s.store.save with | none => 0 | some v => v.elapsed + 1) none)

/-! ## Measurement (chapter 1) -/

/-- A conversion rounds to nearest, an exact half upward, and is clamped to the channel's range with the at-limit flag
set exactly when the unclamped result lies outside it (R3, R4). Thirty-two consecutive rail sweeps, and no fewer,
fault a channel whose count stood at 0, which delivers its held value all the while; thirty-two consecutive non-rail
sweeps, and no fewer, recover a faulted one, and the last of them delivers its own conversion; one sweep of the other
sort starts either run again (R8, R10, R11). -/
def Obligations.ChannelsConvertAndHandleRails : Prop :=
  (∀ (c : Calibration) (raw : RawCode) (lo hi : Int), lo ≤ hi →
    let u := c.convert raw
    let step := deliverConverted u (lo, hi)
    4096 * u ≤ ((raw.toNat : Int) - c.offset) * c.gain + 2048 ∧
      ((raw.toNat : Int) - c.offset) * c.gain + 2048 < 4096 * (u + 1) ∧
      (u < lo → step.value = lo ∧ step.atLimit = true) ∧
      (hi < u → step.value = hi ∧ step.atLimit = true) ∧
      (lo ≤ u → u ≤ hi → step.value = u ∧ step.atLimit = false) ∧
      step.held = false) ∧
  (∀ (cal : Calibration) (range : Int × Int) (c : ChannelState) (raws : List RawCode) (raw : RawCode),
    let after : ChannelState := raws.foldl (fun k r => (k.takeCode cal range r).channel) c
    let last := after.takeCode cal range raw
    c.railCount = 0 → raws.length ≤ 31 →
      ((c.fault = false ∧ (∀ r ∈ raws, isRail r = true) →
          after = { c with railCount := raws.length } ∧
          (isRail raw = true → last.value = c.held ∧ last.atLimit = c.heldAtLimit ∧ last.held = true ∧
            last.faulted = decide (raws.length = 31) ∧
            last.channel = if raws.length = 31 then { c with fault := true, railCount := 0 }
              else { c with railCount := raws.length + 1 }) ∧
          (isRail raw = false → last = deliverConverted (cal.convert raw) range)) ∧
        (c.fault = true ∧ (∀ r ∈ raws, isRail r = false) →
          after = { c with railCount := raws.length } ∧
          (isRail raw = true → last.channel = c ∧ last.value = c.held ∧ last.held = true ∧ last.faulted = false) ∧
          (isRail raw = false →
            if raws.length = 31 then last = deliverConverted (cal.convert raw) range
            else last.channel = { c with railCount := raws.length + 1 } ∧ last.value = c.held ∧
              last.held = true ∧ last.faulted = false))))

/-- A sweep completion while a sweep is in flight: the sample set carries the sweep number and what each channel
delivers, the number goes on by one, a staged period is applied to the next sweep (R5, R6, R7), the four quantities
are added to the accumulators (R71), each monitor has taken the sweep, held where a channel that feeds it delivered a
held value (R14, R20), and each pole its angle's assertion and then its elevation, the sweep counted up to the eighth
(R24, R27; log 15), lowered where a pole alarm's LOWER_POLES action is routed (R152). The pole alarms are raised and
ended as the poles signal, LOWER_STUCK ends with the last LOWERING pole and LINE_LOST on leaving LOST (R27, R28, R31,
R43). A change of contact state cuts or restores (R32), and decides the expectation as gap seen, gap ended or drop
(R33, R63, R65); it, or a change of pole state, queues the CONTACT notice to every port (R30); an unannounced GAP
raises GAP_UNEXPECTED (R31); OVERVOLT's entry raises OVERVOLT and takes the overvoltage cut, published (R22, R88).
Settings, demand and store stay. A sweep of codes that are no rail, on channels without fault, delivers every
channel's conversion, and raises no MEASURE_FAULT; the thirty-second rail sweep of CH0 raises one that is STOPPING and
takes RUN to HALT (R8, R9, R10, R157). -/
def Obligations.SweepDeliversItsSampleSet : Prop :=
  (∀ (codes : Vector RawCode 8) (s : State) (n : Nat), s.up = true → s.meas.inFlight = some n →
    ∃ (t : State) (steps : Vector ChannelStep 8) (set : SampleSet),
      (∀ c : Channel, steps[c] = (s.meas.channels[c]).takeCode s.meas.calib[c] channelRange[c] codes[c]) ∧
      (∀ c : Channel, set.values[c] = (steps[c]).value ∧ set.atLimit[c] = (steps[c]).atLimit) ∧
      set.number = s.meas.number ∧
      exec (.sweepCompletion codes) s = .next t ∧
      t.meas.latest = some set ∧ t.meas.number = s.meas.number + 1 ∧
      t.meas.period = s.meas.staged.getD s.meas.period ∧ t.meas.staged = none ∧
      t.meas.inFlight = some t.meas.period ∧ t.meas.calib = s.meas.calib ∧
      (∀ c : Channel, t.meas.channels[c] = (steps[c]).channel) ∧
      t.allot.acc = ⟨s.allot.acc.vL + set.values[0], s.allot.acc.iL + set.values[1], s.allot.acc.vB + set.values[6],
        s.allot.acc.iB + set.values[7], s.allot.acc.n + 1⟩ ∧
      (let u := s.contact
       let v := set.values
       let held (c : Channel) : Bool := (steps[c]).held
       let loss := u.monitors.loss.takeSweep u.settings.monitors.loss (held 0) (u.settings.evalLoss v[0]) none
       let overvolt := u.monitors.overvolt.takeSweep u.settings.monitors.overvolt (held 0)
         (u.settings.evalOvervolt v[0]) none
       let angle : Pole → MonitorStep
         | .pos => u.monitors.anglePos.takeSweep u.settings.monitors.anglePos (held 2 || held 3)
             (u.settings.evalAngle v[2] v[3]) (u.settings.angleClass v[2] v[3])
         | .neg => u.monitors.angleNeg.takeSweep u.settings.monitors.angleNeg (held 4 || held 5)
             (u.settings.evalAngle v[4] v[5]) (u.settings.angleClass v[4] v[5])
       let pole (p : Pole) : PoleRecord × List PoleSignal :=
         let c : Channel := match p with | .pos => 3 | .neg => 5
         let first := match (angle p).assertion with
           | some cls => (u.poles.get p).takeAssertion p cls
           | none => (u.poles.get p, none)
         let second := first.1.takeElevation p u.settings.stowLevel v[c] (held c) (decide (7 ≤ u.settleSweeps))
         (second.1, first.2.toList ++ second.2.toList)
       let lowers := ∃ k cls, PoleSignal.raised k cls ∈ (pole .pos).2 ++ (pole .neg).2 ∧
         (s.router.routing[k.eventKind.index]).action = true
       let before := u.contact
       let after := t.contact.contact
       let announced := s.sections.expectation
       (t.contact.monitors.loss = loss.monitor ∧ t.contact.monitors.overvolt = overvolt.monitor ∧
          t.contact.monitors.anglePos = (angle .pos).monitor ∧ t.contact.monitors.angleNeg = (angle .neg).monitor) ∧
        (∀ p : Pole,
          let r := (pole p).1
          let q := t.contact.poles.get p
          let moved := lowers ∧ (r.state = .onWire ∨ r.state = .raising)
          (moved → q = { r with state := .lowering, stowCount := 0, seat := .stopped }) ∧
            (¬moved → q = { r with seat := q.seat })) ∧
        t.contact.settleSweeps = min (u.settleSweeps + 1) 8 ∧
        after = t.contact.derive ∧
        (let same := after = before ∧ ∀ p : Pole, (t.contact.poles.get p).state = (u.poles.get p).state
         (¬same → ∀ p : PortId,
            let n := Notice.contact after (t.contact.poles.map PoleRecord.state) (t.contact.poles.map PoleRecord.lastClass)
            n ∈ (t.ports[p]).queue ∨ (t.ports[p]).tx = some (.notice n)) ∧
          (same → ∀ (p : PortId) (n : Notice), n.kind = .contact →
            n ∈ (t.ports[p]).queue ∨ (t.ports[p]).tx = some (.notice n) →
              n ∈ (s.ports[p]).queue ∨ (s.ports[p]).tx = some (.notice n))) ∧
        (let moves (k : AlarmKey) (ended : Prop) : Prop :=
          (ended → t.alarm.find k = (s.alarm.find k).bind fun e => match e.state with
            | .activeAck => none
            | _ => some { e with state := .goneUnack }) ∧
            (¬ended → t.alarm.find k = s.alarm.find k)
         moves .lineLost (before = .lost ∧ after ≠ .lost) ∧
          moves .lowerStuck ((∃ p, (u.poles.get p).state = .lowering) ∧ ∀ p, (t.contact.poles.get p).state ≠ .lowering) ∧
          ∀ p : Pole,
            ((∀ k cls, PoleSignal.raised k cls ∉ (pole p).2) →
              moves (.poleDrop p) (PoleSignal.ended ∈ (pole p).2) ∧ moves (.raiseMiss p) (PoleSignal.ended ∈ (pole p).2)) ∧
            (∀ k cls, PoleSignal.raised k cls ∈ (pole p).2 →
              ∃ e, t.alarm.find k = some e ∧ e.state = .activeUnack ∧ e.cls = some cls ∧ e.snapshot.before = before)) ∧
        t.sections.current = (match announced with
          | some x => if before = .gap ∧ after = .contact ∧ x.gapSeen = true then some x.pendingId
              else s.sections.current
          | none => s.sections.current) ∧
        t.sections.expectation = (if after = before then announced else match after with
          | .gap => announced.map fun x => { x with gapSeen := true }
          | .contact => announced.filter fun x => !(decide (before = .gap) && x.gapSeen)
          | _ => none) ∧
        (before = .contact → after ≠ .contact → t.allot.record.bLine = 0 ∧ t.allot.record.flags.cut = true ∧
          t.allot.cutMark = true ∧ t.allot.reclose = .stopped) ∧
        (before ≠ .contact → after = .contact → t.allot.reclose =
          if s.allot.line.tRc = 0 then s.allot.reclose else .running s.allot.line.tRc) ∧
        (if before ≠ .gap ∧ after = .gap ∧ announced = none then
          (t.router.faults[4]).count = min ((s.router.faults[4]).count + 1) 65535 ∧
            (t.router.faults[4]).lastDetail = .sectionId s.sections.current
          else t.router.faults[4] = s.router.faults[4]) ∧
        (if overvolt.entered = true then
          (t.router.faults[7]).count = min ((s.router.faults[7]).count + 1) 65535 ∧
            (t.router.faults[7]).lastDetail = .channel 0 ∧ t.allot.record.aRgLine = 0 ∧
            t.allot.record.aRg = min 800 (t.allot.record.aRgBat + t.allot.record.aRgAux) ∧
            ∀ p : PortId, s.role p ≠ .roof → Notice.allotment t.allot.record ∈ (t.ports[p]).queue ∨
              (t.ports[p]).tx = some (.notice (.allotment t.allot.record))
          else t.router.faults[7] = s.router.faults[7])) ∧
      t.contact.settings = s.contact.settings ∧ t.sections.table = s.sections.table ∧
      t.sections.settings = s.sections.settings ∧ t.router.routing = s.router.routing ∧ t.store = s.store ∧
      t.power = s.power ∧ t.allot.frame = s.allot.frame ∧ t.allot.frameTimer = s.allot.frameTimer ∧
      t.allot.demand = s.allot.demand ∧ t.allot.batteryAvailable = s.allot.batteryAvailable ∧
      t.allot.line = s.allot.line ∧ t.allot.battery = s.allot.battery) ∧
  (∀ (codes : Vector RawCode 8) (s t : State), s.up = true → s.meas.inFlight.isSome = true →
    exec (.sweepCompletion codes) s = .next t →
    ((∀ c : Channel, isRail codes[c] = false ∧ (s.meas.channels[c]).fault = false) →
      (∃ set, t.meas.latest = some set ∧ ∀ c : Channel,
        set.values[c] = max (channelRange[c]).1 (min ((s.meas.calib[c]).convert codes[c]) (channelRange[c]).2)) ∧
      t.router.faults[13] = s.router.faults[13] ∧ t.router.mode = s.router.mode) ∧
    ((s.meas.channels[0]).fault = false → (s.meas.channels[0]).railCount = 31 → isRail codes[0] = true →
      (t.meas.channels[0]).fault = true ∧ (t.router.faults[13]).latch = .stopping ∧
        min ((s.router.faults[13]).count + 1) 65535 ≤ (t.router.faults[13]).count ∧
        t.router.mode = if s.router.mode = .run then .halt else s.router.mode))

/-- Every step keeps the values of the measurement unit within their channels' ranges (R1) and its rail counts below
32. -/
def Obligations.MeasurementLawIsKept : Prop :=
  ∀ s t : State, s.meas.Law → step s = .next t → t.meas.Law

/-! ## Contact monitor (chapter 2) -/

/-- What an evaluation gives: condition where the asserted column holds, clean where the left column holds, and band
where neither does; an angle's class is LATERAL, then HIGH, then LOW (R15). A FILTERED monitor of decimation d changes
state on the fourth consecutive disagreeing evaluation and not before, and evaluates on every d-th sweep alone: after
k sweeps of result condition, with k at most 4d, a CLEAR monitor with its counts at 0 is ASSERTED exactly when k is
4d, and after k of result clean an ASSERTED one is CLEAR exactly when k is 4d; an evaluation that agrees with the
state, or is of result band, returns the filter count to 0 (R16, R18). The fourth evaluation of result condition is
the one that hands an angle monitor's assertion on with its class and reports the entry to ASSERTED; an entry is
reported at no other (R18). A DIRECT monitor asserts at the first condition, its filter count staying 0; in ASSERTED
the fourth consecutive clean sweep clears it, and a condition or band sweep returns the count to 0 (R17). An angle
monitor whose class changes while ASSERTED records it, sets its detection flag and hands a new assertion (R18); a held
sweep changes nothing (R20); a settling monitor counts to its eighth sweep, held or not, and is then CLEAR (R19). -/
def Obligations.MonitorsFilterTheirConditions : Prop :=
  (∀ (c : ContactSettings) (x y : Int),
    (c.evalLoss x = .condition ↔ x < c.vLoss) ∧
    (c.evalLoss x = .clean ↔ x ≥ c.vLoss + c.hLoss) ∧
    (c.evalOvervolt x = .condition ↔ x > c.vOv) ∧
    (c.evalOvervolt x = .clean ↔ x ≤ (c.vOv : Int) - c.hOv ∧ ¬x > c.vOv) ∧
    (c.evalAngle x y = .condition ↔ (x.natAbs : Int) > c.latLimit ∨ y > c.elevMax ∨ y < c.elevMin) ∧
    (c.evalAngle x y = .clean ↔
      (x.natAbs : Int) ≤ (c.latLimit : Int) - c.hAng ∧ y ≤ (c.elevMax : Int) - c.hAng ∧
        y ≥ (c.elevMin : Int) + c.hAng ∧ ¬((x.natAbs : Int) > c.latLimit ∨ y > c.elevMax ∨ y < c.elevMin)) ∧
    (c.angleClass x y = some .lateral ↔ (x.natAbs : Int) > c.latLimit) ∧
    (c.angleClass x y = some .high ↔ (x.natAbs : Int) ≤ c.latLimit ∧ y > c.elevMax) ∧
    (c.angleClass x y = some .low ↔ (x.natAbs : Int) ≤ c.latLimit ∧ y ≤ c.elevMax ∧ y < c.elevMin)) ∧
  (∀ (m : Monitor) (set : MonitorSetting) (cls : Option ConditionClass) (k : Nat),
    set.mode = .filtered → 0 < set.decimation →
      (m.filter = 0 → m.decimation = 0 → k ≤ 4 * set.decimation →
        let after (e : Evaluation) := (fun x : Monitor => (x.takeSweep set false e cls).monitor)^[k] m
        let counted : Monitor := { m with filter := k / set.decimation, decimation := k % set.decimation }
        (m.state = .clear → after .condition =
          if k = 4 * set.decimation then { m with state := .asserted, detected := true, cls := cls } else counted) ∧
        (m.state = .asserted → after .clean =
          if k = 4 * set.decimation then { m with state := .clear } else counted)) ∧
      (∀ e : Evaluation,
        let next := m.takeSweep set false e cls
        (m.state = .clear ∨ m.state = .asserted → m.decimation + 1 < set.decimation →
          next.monitor = { m with decimation := m.decimation + 1 } ∧ next.assertion = none ∧ next.entered = false) ∧
        (set.decimation ≤ m.decimation + 1 →
          (e = .band ∨ (m.state = .clear ∧ e = .clean) ∨ (m.state = .asserted ∧ e = .condition ∧ cls = m.cls) →
            m.state = .clear ∨ m.state = .asserted →
              next.monitor = { m with filter := 0, decimation := 0 } ∧ next.assertion = none ∧ next.entered = false) ∧
          (m.state = .asserted → e = .condition → cls ≠ m.cls →
            next.monitor = { m with filter := 0, decimation := 0, detected := true, cls := cls } ∧
              next.assertion = cls ∧ next.entered = false) ∧
          (m.state = .clear → e = .condition →
            (m.filter < 3 → next.monitor = { m with filter := m.filter + 1, decimation := 0 } ∧
              next.assertion = none ∧ next.entered = false) ∧
            (m.filter = 3 →
              next.monitor =
                { m with state := .asserted, filter := 0, decimation := 0, detected := true, cls := cls } ∧
              next.assertion = cls ∧ next.entered = true)) ∧
          (m.state = .asserted → e = .clean →
            (m.filter < 3 → next.monitor = { m with filter := m.filter + 1, decimation := 0 } ∧
              next.assertion = none ∧ next.entered = false) ∧
            (m.filter = 3 → next.monitor = { m with state := .clear, filter := 0, decimation := 0 } ∧
              next.assertion = none ∧ next.entered = false))))) ∧
  (∀ (m : Monitor) (set : MonitorSetting) (held : Bool) (e : Evaluation) (cls : Option ConditionClass),
    let next := m.takeSweep set held e cls
    (set.mode = .direct → held = false →
      (m.state = .clear → e = .condition →
        next.monitor = { m with state := .asserted, filter := 0, detected := true, cls := cls } ∧
          next.assertion = cls ∧ next.entered = true) ∧
      (m.state = .clear → e ≠ .condition → next.monitor = { m with filter := 0 } ∧ next.assertion = none ∧ next.entered = false) ∧
      (m.state = .asserted → e = .clean → m.filter = 3 → next.monitor = { m with state := .clear, filter := 0 } ∧
        next.assertion = none ∧ next.entered = false) ∧
      (m.state = .asserted → e = .clean → m.filter < 3 → next.monitor = { m with filter := m.filter + 1 } ∧
        next.assertion = none ∧ next.entered = false) ∧
      (m.state = .asserted → e = .band → next.monitor = { m with filter := 0 } ∧ next.assertion = none ∧ next.entered = false) ∧
      (m.state = .asserted → e = .condition → cls = m.cls →
        next.monitor = { m with filter := 0 } ∧ next.assertion = none ∧ next.entered = false) ∧
      (m.state = .asserted → e = .condition → cls ≠ m.cls →
        next.monitor = { m with filter := 0, detected := true, cls := cls } ∧ next.assertion = cls ∧
          next.entered = false)) ∧
    (held = true → (m.state = .clear ∨ m.state = .asserted) → next.monitor = m ∧ next.assertion = none ∧ next.entered = false) ∧
    (m.state = .disabled → next.monitor = m ∧ next.assertion = none ∧ next.entered = false) ∧
    (m.state = .settling → m.settling < 7 →
      next.monitor = { m with settling := m.settling + 1 } ∧ next.assertion = none ∧ next.entered = false) ∧
    (m.state = .settling → m.settling = 7 → next.monitor =
      { m with state := .clear, settling := 0, filter := 0, decimation := 0 } ∧ next.assertion = none ∧ next.entered = false))

/-- A pole record on an assertion (R27), and on its elevation (R24, R25): the fourth consecutive passing sweep of the
stow test changes the state, a failing sweep returns the count to 0, a held elevation changes nothing, and a pole
still UNKNOWN once settled is decided by its elevation. -/
def Obligations.PoleRecordsFollowTheirTables : Prop :=
  ∀ (r : PoleRecord) (p : Pole) (cls : ConditionClass) (level : Nat) (x : Int) (settled : Bool),
    let goTo (q : PoleRecord) (st : PoleState) : PoleRecord := { q with state := st, stowCount := 0, seat := .stopped }
    let copied : PoleRecord := { r with lastClass := some cls }
    let lowPasses : Bool := decide (x ≤ level)
    let next := r.takeElevation p level x false settled
    (r.takeAssertion p cls =
      match r.state with
      | .onWire => (goTo copied .dewired, some (.raised (.poleDrop p) cls))
      | .raising =>
        if cls = .low then (copied, none) else (goTo copied .dewired, some (.raised (.raiseMiss p) cls))
      | _ => (copied, none)) ∧
    r.takeElevation p level x true settled = (r, none) ∧
    (r.state = .unknown → next =
      if settled then (goTo r (if x ≤ level then .stowed else .raising), none) else (r, none)) ∧
    (r.state ≠ .unknown → lowPasses = (r.state == .stowed) → next = ({ r with stowCount := 0 }, none)) ∧
    (r.state ≠ .unknown → lowPasses = (r.state != .stowed) → r.stowCount < 3 →
      next = ({ r with stowCount := r.stowCount + 1 }, none)) ∧
    (r.state ≠ .unknown → lowPasses = (r.state != .stowed) → r.stowCount = 3 → next =
      match r.state with
      | .stowed => (goTo r .raising, none)
      | .onWire => (goTo r .dewired, some (.raised (.poleDrop p) .low))
      | .dewired => (goTo r .stowed, some .ended)
      | _ => (goTo r .stowed, none))

/-- The seat timer's expiry puts its RAISING pole ON_WIRE; where that brings the contact state to CONTACT the reclose
timer starts with t_rc, unless t_rc is 0 (R26, R30, R32, R91). An expiry that no running seat timer owns does nothing
(log 3). The reclose timer's expiry stops it, and modifies and publishes nothing (R91). -/
def Obligations.SeatAndRecloseTimersExpire : Prop :=
  (∀ (p : Pole) (s : State), s.up = true → s.ContactLaw →
    let r := s.contact.poles.get p
    (r.state = .raising → r.seat.isRunning = true → ∃ t, exec (.seatTimerExpiry p) s = .next t ∧
      t.contact.poles.get p = { r with state := .onWire, stowCount := 0, seat := .stopped } ∧
      t.contact.contact = t.contact.derive ∧ t.contact.monitors = s.contact.monitors ∧
      (s.contact.contact ≠ .contact → t.contact.contact = .contact →
        t.allot = { s.allot with
          reclose := if s.allot.line.tRc = 0 then s.allot.reclose else .running s.allot.line.tRc }) ∧
      t.meas = s.meas ∧ t.store = s.store ∧ t.sections.current = s.sections.current ∧
      t.router.mode = s.router.mode) ∧
    ((r.state ≠ .raising ∨ r.seat.isRunning = false) → exec (.seatTimerExpiry p) s = .next s.beginWaiting)) ∧
  (∀ s : State, s.up = true → s.allot.reclose.isRunning = true →
    exec .recloseExpiry s = .next ({ s with allot := { s.allot with reclose := .stopped } } : State).beginWaiting)

/-- The gap timer's expiry in GAP raises LINE_LOST with contact state before GAP, and the expectation is dropped; with
the LOWER_POLES action off the contact state is LOST and the alarm stands, and with it on the poles are ordered down,
the contact state is OFF_WIRE and the alarm's condition has ended (R31, R33, R40, R65, R152). -/
def Obligations.GapExpiryLosesTheLine : Prop :=
  ∀ s : State, s.up = true → s.contact.gapTimer.isRunning = true → s.contact.contact = .gap →
    s.contact.derive = .gap → s.alarm.find .lineLost = none →
    let action := (s.router.routing[2]).action
    ∃ t e, exec .gapTimerExpiry s = .next t ∧ t.alarm.find .lineLost = some e ∧ e.snapshot.before = .gap ∧
      e.raiseFrame = s.allot.frame ∧ e.number = s.alarm.nextNumber ∧ e.repeats = 0 ∧
      t.sections.expectation = none ∧ t.sections.current = s.sections.current ∧
      (t.router.faults[2]).lastDetail = .sectionId s.sections.current ∧ t.allot = s.allot ∧
      (action = false → t.contact.contact = .lost ∧ t.contact.gapTimer = .expired ∧ e.state = .activeUnack ∧
        t.contact.poles.pos.state = .onWire ∧ t.contact.poles.neg.state = .onWire) ∧
      (action = true → t.contact.contact = .offWire ∧ t.contact.gapTimer = .stopped ∧ e.state = .goneUnack ∧
        t.contact.poles.pos.state = .lowering ∧ t.contact.poles.neg.state = .lowering)

/-- The lowering timer's expiry stops it, leaves the poles LOWERING and raises LOWER_STUCK, as a new entry or as a
repeat of the one on the list (R28, R40, R42). -/
def Obligations.LoweringExpiryRaisesLowerStuck : Prop :=
  ∀ s : State, s.up = true → s.ContactLaw → s.contact.loweringTimer.isRunning = true →
    ∃ t e, exec .loweringTimerExpiry s = .next t ∧ t.contact.loweringTimer = .stopped ∧
      t.contact.poles.pos.state = s.contact.poles.pos.state ∧ t.contact.poles.neg.state = s.contact.poles.neg.state ∧
      t.alarm.find .lowerStuck = some e ∧ e.state = .activeUnack ∧ e.raiseFrame = s.allot.frame ∧
      e.cls = none ∧ e.ackPort = none ∧
      (∀ old, s.alarm.find .lowerStuck = some old →
        e.number = old.number ∧ e.repeats = min (old.repeats + 1) 255 ∧ t.alarm.history.length = s.alarm.history.length) ∧
      (s.alarm.find .lowerStuck = none → e.number = s.alarm.nextNumber ∧ e.repeats = 0) ∧
      (t.router.faults[3]).count = min ((s.router.faults[3]).count + 1) 65535 ∧ t.router.mode = s.router.mode

/-- LOWER, by the CAB: every ON_WIRE or RAISING pole becomes LOWERING and every other keeps its state, the contact
state is derived anew, the lowering timer runs while a pole is LOWERING, POLE_ORDER(LOWER) waits at every ROOF port,
and the reply is OK if a pole became LOWERING and ALREADY if none did (R28). RAISE, by the CAB: taken with both poles
STOWED and no pole alarm in ACTIVE_UNACK or GONE_UNACK, it queues POLE_ORDER(RAISE) to every ROOF port and is answered
OK, otherwise INTERLOCK; no pole state changes (R29, R46). -/
def Obligations.LowerAndRaiseOrderThePoles : Prop :=
  (∀ (p : PortId) (tag : Byte) (s : State), s.Hears p → s.ContactLaw →
    (s.role p ≠ .cab → exec (.lower p tag) s = .next ((s.hunt p).answered p 0x32 tag .roleRefused)) ∧
    (s.role p = .cab →
      let moves (r : PoleRecord) : Bool := r.state == .onWire || r.state == .raising
      let lowered (r : PoleRecord) : PoleState := if moves r then .lowering else r.state
      let any := moves s.contact.poles.pos || moves s.contact.poles.neg
      ∃ u : State, exec (.lower p tag) s = .next (u.answered p 0x32 tag (if any then .ok else .already)) ∧
        u.contact.poles.pos.state = lowered s.contact.poles.pos ∧
        u.contact.poles.neg.state = lowered s.contact.poles.neg ∧
        u.contact.contact = u.contact.derive ∧ u.contact.monitors = s.contact.monitors ∧
        (u.contact.anyLowering = true → s.contact.loweringTimer = .stopped →
          u.contact.loweringTimer = .running s.contact.settings.lowerTimeMax) ∧
        (u.contact.anyLowering = true → s.contact.loweringTimer ≠ .stopped →
          u.contact.loweringTimer = s.contact.loweringTimer) ∧
        (u.contact.anyLowering = false → u.contact.loweringTimer = .stopped) ∧
        (∀ q : PortId, s.role q = .roof → Notice.poleOrder .lower ∈ (u.ports[q]).queue) ∧
        u.meas = s.meas ∧ u.router = s.router ∧ u.store = s.store ∧ u.sections.current = s.sections.current ∧
        u.sections.table = s.sections.table)) ∧
  (∀ (p : PortId) (tag : Byte) (s : State), s.Hears p →
    let h := s.hunt p
    let free := s.contact.poles.pos.state = .stowed ∧ s.contact.poles.neg.state = .stowed ∧
      ∀ e ∈ s.alarm.active, (∃ q, e.key = .poleDrop q ∨ e.key = .raiseMiss q) → e.state = .activeAck
    (s.role p ≠ .cab → exec (.raise p tag) s = .next (h.answered p 0x33 tag .roleRefused)) ∧
    (s.role p = .cab → free → exec (.raise p tag) s =
      .next ((h.queueTo (fun q => s.role q == .roof) (.poleOrder .raise)).answered p 0x33 tag .ok)) ∧
    (s.role p = .cab → ¬free → exec (.raise p tag) s = .next (h.answered p 0x33 tag .interlock)))

/-- Every step keeps the law of the contact monitor: the contact state as derived (R30), the gap, lowering and seat
timers as their conditions call for (R26, R28, R31). -/
def Obligations.ContactLawIsKept : Prop :=
  ∀ s t : State, s.ContactLaw → step s = .next t → t.ContactLaw

/-! ## Alarm unit (chapter 3) -/

/-- A raise of a key without entry adds one at the end of the list, in ACTIVE_UNACK with a number no entry holds and
the snapshot of the moment, and copies it into the history as the policy in force says; a raise of a key with an entry
repeats it in its place with its number kept, and brings the newest history copy's repeat count up to date (R39, R40,
R41, R42, R50), whichever alarm's copy that is once the numbers have wrapped (log 30). Either withdraws waiting raise
orders for a pole kind and queues the ALARM notice of the new list to the CAB, ROOF and MONITOR ports (R47, R48). A
condition end and an acknowledgment remove an entry when the later of the two arrives: in ACTIVE_UNACK the end makes
it GONE_UNACK, in ACTIVE_ACK it removes it, and in GONE_UNACK, or without an entry, it does nothing; each change
queues the ALARM notice of the new list, and neither history nor fault table changes (R43, R48). -/
def Obligations.RaisesAndEndsMoveTheList : Prop :=
  (∀ (s : State) (k : AlarmKey) (cls : Option ConditionClass) (before : ContactState) (traction : Nat),
    let t := s.enterAlarm k cls before traction
    let snap : Snapshot :=
      { vl := s.meas.sample 0, il := s.meas.sample 1
        lateral := k.pole.map fun p => s.meas.sample (lateralChannel p)
        elevation := k.pole.map fun p => s.meas.sample (elevationChannel p)
        traction := traction, before := before, sectionId := s.sections.current }
    (s.AlarmLaw → s.alarm.find k = none → ∃ e, t.alarm.active = s.alarm.active ++ [e] ∧
      e = ⟨t.alarm.counter, k, cls, .activeUnack, s.allot.frame, snap, 0, none⟩ ∧
      (∀ x ∈ s.alarm.active, x.number ≠ e.number) ∧
      ((∀ x ∈ s.alarm.active, x.number ≠ s.alarm.counter + 1) → e.number = s.alarm.counter + 1) ∧
      (s.alarm.policy = .off → t.alarm.history = s.alarm.history ∧ t.alarm.historyFull = s.alarm.historyFull) ∧
      (s.alarm.policy ≠ .off → s.alarm.history.length < 16 →
        t.alarm.history = s.alarm.history ++ [e.copy] ∧ t.alarm.historyFull = s.alarm.historyFull) ∧
      (s.alarm.policy = .latest → 16 ≤ s.alarm.history.length →
        t.alarm.history = s.alarm.history.tail ++ [e.copy] ∧ t.alarm.historyFull = s.alarm.historyFull) ∧
      (s.alarm.policy = .first → 16 ≤ s.alarm.history.length →
        t.alarm.history = s.alarm.history ∧ t.alarm.historyFull = true)) ∧
    (∀ old, s.alarm.find k = some old →
      let e : AlarmEntry := ⟨old.number, k, cls, .activeUnack, s.allot.frame, snap, min (old.repeats + 1) 255, none⟩
      t.alarm.active = s.alarm.active.map (fun x => if x.key = k then e else x) ∧
      t.alarm.counter = s.alarm.counter ∧ t.alarm.historyFull = s.alarm.historyFull ∧
      (∀ a h b, s.alarm.history = a ++ h :: b → h.number = old.number → (∀ x ∈ b, x.number ≠ old.number) →
        t.alarm.history = a ++ { h with repeats := e.repeats } :: b) ∧
      ((∀ x ∈ s.alarm.history, x.number ≠ old.number) → t.alarm.history = s.alarm.history)) ∧
    (∀ q : PortId, s.role q = .roof → k.pole.isSome = true → Notice.poleOrder .raise ∉ (t.ports[q]).queue) ∧
    (∀ q : PortId, (s.role q = .cab ∨ s.role q = .roof ∨ s.role q = .monitor →
        Notice.alarm (t.alarm.active.map fun e => ⟨e.number, e.key, e.state, e.repeats⟩) ∈ (t.ports[q]).queue) ∧
      (s.role q = .traction ∨ s.role q = .auxiliary → t.ports[q] = s.ports[q])) ∧
    t = { s with alarm := t.alarm, ports := t.ports }) ∧
  (∀ (s : State) (k : AlarmKey),
    let list (l : List AlarmEntry) : State :=
      ({ s with alarm := { s.alarm with active := l } } : State).notify
        (.alarm (l.map fun e => ⟨e.number, e.key, e.state, e.repeats⟩))
    (s.alarm.find k = none → s.conditionEnd k = s) ∧
    (∀ e, s.alarm.find k = some e →
      (e.state = .activeUnack → s.conditionEnd k =
        list (s.alarm.active.map fun x => if x.key = k then { e with state := .goneUnack } else x)) ∧
      (e.state = .activeAck → s.conditionEnd k = list (s.alarm.active.filter fun x => x.key != k)) ∧
      (e.state = .goneUnack → s.conditionEnd k = s)))

/-- ACK_ALARM, by the CAB in any mode: an ACTIVE_UNACK entry becomes ACTIVE_ACK with the port recorded, a GONE_UNACK
one leaves the list, each with an ALARM notice; an ACTIVE_ACK one is answered ALREADY and an unknown number NO_SUCH
(R44). -/
def Obligations.AcknowledgmentsActByState : Prop :=
  ∀ (p : PortId) (tag : Byte) (number : Half) (s : State), s.Hears p →
    let h := s.hunt p
    let list (l : List AlarmEntry) : State :=
      ({ h with alarm := { s.alarm with active := l } } : State).notify
        (.alarm (l.map fun e => ⟨e.number, e.key, e.state, e.repeats⟩))
    let reply (u : State) (code : ReplyCode) : Prop :=
      exec (.ackAlarm p tag number) s = .next (u.answered p 0x28 tag code)
    (s.role p ≠ .cab → reply h .roleRefused) ∧
    (s.role p = .cab → (∀ e ∈ s.alarm.active, e.number ≠ number) → reply h .noSuch) ∧
    (s.role p = .cab → s.AlarmLaw → ∀ e ∈ s.alarm.active, e.number = number →
      (e.state = .activeUnack → reply (list (s.alarm.active.map fun x =>
        if x.key = e.key then { e with state := .activeAck, ackPort := some p } else x)) .ok) ∧
      (e.state = .activeAck → reply h .already) ∧
      (e.state = .goneUnack → reply (list (s.alarm.active.filter fun x => x.key != e.key)) .ok))

/-- CLEAR_HISTORY, by the CAB in any mode, empties the history and clears the history-full flag; the active list, the
counter and the policy stay (R52). -/
def Obligations.ClearHistoryEmptiesIt : Prop :=
  ∀ (p : PortId) (tag : Byte) (s : State), s.Hears p →
    let h := s.hunt p
    exec (.clearHistory p tag) s = .next (if s.role p = .cab then
      ({ h with alarm :=
          { active := s.alarm.active, counter := s.alarm.counter, history := [], historyFull := false
            policy := s.alarm.policy } } : State).answered p 0x29 tag .ok
      else h.answered p 0x29 tag .roleRefused)

/-- CLEAR_FLAGS, by the CAB in any mode, clears the four detection flags and changes nothing else (R23).
SET_HISTORY_POLICY: role, then mode, then value; in SETUP and RUN the policy named is stored and nothing recorded is
lost (R51). -/
def Obligations.FlagsAndPolicyAreSet : Prop :=
  (∀ (p : PortId) (tag : Byte) (s : State), s.Hears p →
    let h := s.hunt p
    let m := s.contact.monitors
    exec (.clearFlags p tag) s = .next (if s.role p = .cab then
      ({ h with contact := { h.contact with monitors :=
          ⟨{ m.loss with detected := false }, { m.anglePos with detected := false },
            { m.angleNeg with detected := false }, { m.overvolt with detected := false }⟩ } } : State).answered
        p 0x2D tag .ok
      else h.answered p 0x2D tag .roleRefused)) ∧
  (∀ (p : PortId) (tag value : Byte) (s : State), s.Hears p →
    let h := s.hunt p
    let reply (u : State) (code : ReplyCode) : Prop :=
      exec (.setHistoryPolicy p tag value) s = .next (u.answered p 0x2A tag code)
    (s.role p ≠ .cab → reply h .roleRefused) ∧
    (s.role p = .cab →
      (s.router.mode = .halt → reply h .modeRefused) ∧
      (s.router.mode ≠ .halt →
        (2 < value.toNat → reply h .format) ∧
        (∀ q : HistoryPolicy, value = (match q with | .latest => 0 | .first => 1 | .off => 2) →
          reply { h with alarm := { s.alarm with policy := q } } .ok))))

/-- Every step keeps the law of the active list: one entry per key and no number twice (R37, R39). Every step keeps
the law that joins the pole records and the list: a pole is DEWIRED exactly when an entry of a pole kind stands for it
in ACTIVE_UNACK or ACTIVE_ACK (R43), given that the list has one entry per key. Every step keeps the law on raise
orders: no POLE_ORDER(RAISE) waits while the raise interlock is engaged (R47). -/
def Obligations.AlarmLawsAreKept : Prop :=
  (∀ s t : State, s.AlarmLaw → step s = .next t → t.AlarmLaw) ∧
  (∀ s t : State, s.AlarmLaw → s.PoleLaw .pos → s.PoleLaw .neg → step s = .next t → t.PoleLaw .pos ∧ t.PoleLaw .neg) ∧
  (∀ s t : State, s.RaiseLaw → step s = .next t → t.RaiseLaw)

/-! ## Section unit (chapter 4) -/

/-- SECTION_WRITE: role, then mode; then its entries are applied one at a time. Those ahead of the first that fails a
check are in the table with the fields carried, the last of an id standing; every other id reads as before, the
current section and the expectation stay, and the reply is OK with the count, or ABORTED_AT with the count and the
first check that fails: ID, I_FEED, I_RGMAX, REGEN, GAP_OVERRIDE, and TABLE_FULL for an id new to a table that the
entries ahead of it have filled or that was full (R55, R58, R59). -/
def Obligations.SectionWriteStoresItsEntries : Prop :=
  ∀ (p : PortId) (tag : Byte) (es : List SectionFields) (s : State), s.Hears p → 1 ≤ es.length → es.length ≤ 4 →
    let h := s.hunt p
    (s.role p ≠ .cab → exec (.sectionWrite p tag es) s = .next (h.answered p 0x23 tag .roleRefused)) ∧
    (s.role p = .cab → s.router.mode = .halt →
      exec (.sectionWrite p tag es) s = .next (h.answered p 0x23 tag .modeRefused)) ∧
    (s.role p = .cab → s.router.mode ≠ .halt → ∀ good rest, es = good ++ rest → (∀ x ∈ good, x.ranged = true) →
      let table := good.foldl (fun l f => insertSection f.entry l) s.sections.table
      table.length ≤ 32 →
      (∀ f ∈ rest.head?, f.ranged = false ∨ (table.length = 32 ∧ ∀ x ∈ table, x.id ≠ f.id.toNat)) →
        ∃ (u : State) (fault : Option SectionFault),
          exec (.sectionWrite p tag es) s = .next (u.answered p 0x23 tag (if rest = [] then .ok else .abortedAt)
            (.sectionsWritten good.length fault)) ∧
          (fault = none ↔ rest = []) ∧
          (∀ f ∈ rest.head?, fault = some (
            if f.id = 0 ∨ 4095 < f.id.toNat then .id
            else if 1000 < f.iFeed.toNat then .iFeed
            else if 800 < f.iRgmax.toNat then .iRgmax
            else if 1 < f.permitted.toNat then .regen
            else if f.override ≠ 0 ∧ (f.override.toNat < 100 ∨ 5000 < f.override.toNat) then .gapOverride
            else .tableFull)) ∧
          u.sections.table = table ∧
          (∀ f before after, good = before ++ f :: after → (∀ x ∈ after, x.id ≠ f.id) →
            u.sections.find f.id.toNat = some f.entry) ∧
          (∀ id, (∀ f ∈ good, f.id.toNat ≠ id) → u.sections.find id = s.sections.find id) ∧
          u.sections.current = s.sections.current ∧ u.sections.expectation = s.sections.expectation ∧
          u.sections.settings = s.sections.settings ∧
          ((∀ f ∈ good, s.sections.current ≠ some f.id.toNat) → u.allot = s.allot) ∧
          u.allot.record.bLine ≤ s.allot.record.bLine ∧ u.meas = s.meas ∧ u.contact = s.contact ∧
          u.aux = s.aux ∧ u.router = s.router ∧ u.alarm = s.alarm ∧ u.store = s.store ∧ (good = [] → u = h))

/-- SECTION_ERASE by the CAB outside HALT empties the table, removes the expectation and makes the current section
NONE; the default limits are handed on if a section was current (R60). SECTION_SET makes an id of the table current
and removes the expectation, and hands the limits on if the id changes (R61). -/
def Obligations.SectionEraseAndSetPlaceTheVehicle : Prop :=
  ∀ (p : PortId) (tag : Byte) (id : Half) (s : State), s.Hears p →
    let h := s.hunt p
    let u := s.sections
    let defaults : Limits := ⟨u.settings.iFeedDefault, u.settings.iRgmaxDefault, true⟩
    let erased : State := { h with sections := ⟨[], none, none, u.settings⟩ }
    let placed : State := { h with sections := ⟨u.table, some id.toNat, none, u.settings⟩ }
    let erase (v : State) (code : ReplyCode) : Prop := exec (.sectionErase p tag) s = .next (v.answered p 0x24 tag code)
    let set (v : State) (code : ReplyCode) : Prop := exec (.sectionSet p tag id) s = .next (v.answered p 0x25 tag code)
    (s.role p ≠ .cab → erase h .roleRefused ∧ set h .roleRefused) ∧
    (s.role p = .cab →
      (s.router.mode = .halt → erase h .modeRefused) ∧
      (s.router.mode ≠ .halt → erase (if u.current = none then erased else erased.takeLimits defaults) .ok) ∧
      (u.find id.toNat = none → set h .noSuch) ∧
      (∀ e, u.find id.toNat = some e →
        set (if u.current = some id.toNat then placed else placed.takeLimits ⟨e.iFeed, e.iRgmax, e.permitted⟩) .ok))

/-- SECTION_AHEAD by its conditions in their order: an announcement is opened or replaced with the window running for
expect_window and gap-seen clear, unless the gap of the announced one has begun (R62). The window timer's expiry with
gap-seen clear makes the pending section current, removes the expectation, hands its limits on and raises
SECTION_NO_GAP with the new section; with gap-seen set the timer alone changes, and stays expired (R64). The contact
monitor's signals at the section unit: gap seen sets the flag of an open expectation; gap ended completes an
expectation whose flag is set, with its limits handed on, and does nothing to another; a drop removes it and keeps the
current section (R63, R65). -/
def Obligations.ExpectationIsOpenedAndDecided : Prop :=
  (∀ (p : PortId) (tag : Byte) (id : Half) (s : State), s.Hears p →
    let h := s.hunt p
    let opened : State := { h with sections := { s.sections with
      expectation := some ⟨id.toNat, .running s.sections.settings.expectWindow, false⟩ } }
    let reply (u : State) (code : ReplyCode) : Prop :=
      exec (.sectionAhead p tag id) s = .next (u.answered p 0x26 tag code)
    (s.role p ≠ .cab → reply h .roleRefused) ∧
    (s.role p = .cab →
      (s.sections.find id.toNat = none → reply h .noSuch) ∧
      ((s.sections.find id.toNat).isSome = true →
        (∀ e, s.sections.expectation = some e → e.gapSeen = true → reply h .busy) ∧
        (∀ e, s.sections.expectation = some e → e.gapSeen = false → reply opened .replaced) ∧
        (s.sections.expectation = none → reply opened .ok)))) ∧
  (∀ (s : State) (e : Expectation), s.up = true → s.sections.expectation = some e → e.window.isRunning = true →
    (e.gapSeen = true → exec .windowExpiry s =
      .next ({ s with sections := { s.sections with expectation := some { e with window := .expired } } } :
        State).beginWaiting) ∧
    (e.gapSeen = false → ∀ x, s.sections.find e.pendingId = some x →
      ∃ t, exec .windowExpiry s = .next t ∧
        t.sections = { s.sections with current := some e.pendingId, expectation := none } ∧
        t.allot.record = (if s.allot.record.limitLowers x.limits then s.allot.record.fitLimits x.limits
          else s.allot.record) ∧
        (t.router.faults[5]).count = min ((s.router.faults[5]).count + 1) 65535 ∧
        (t.router.faults[5]).lastDetail = .sectionId (some e.pendingId) ∧ (t.router.faults[5]).latch ≠ .none ∧
        t.router.mode = s.router.mode ∧ t.contact = s.contact ∧ t.meas = s.meas ∧ t.aux = s.aux ∧ t.alarm = s.alarm)) ∧
  (∀ (s : State),
    (s.sections.expectation = none → s.gapSeen = s ∧ s.gapEnded = s) ∧
    (∀ e, s.sections.expectation = some e →
      s.gapSeen = { s with sections := { s.sections with expectation := some { e with gapSeen := true } } } ∧
      (e.gapSeen = false → s.gapEnded = s) ∧
      (e.gapSeen = true → ∀ x, s.sections.find e.pendingId = some x →
        s.gapEnded = ({ s with sections :=
          { s.sections with current := some e.pendingId, expectation := none } } : State).takeLimits x.limits)) ∧
    s.sectionDrop = { s with sections := { s.sections with expectation := none } })

/-- Every step keeps the section unit's law: ids ascending, at most 32 entries, and the current section and the
pending id in the table (R55, R56). -/
def Obligations.SectionLawIsKept : Prop :=
  ∀ s t : State, s.SectionLaw → step s = .next t → t.SectionLaw

/-! ## Allotment unit (chapters 5 to 7) -/

/-- A mean of a frame with n sample sets is the sum divided by n, rounded toward minus infinity (R72). The four
factors by their tables, their tests in order (R75, R77, R102, R104): 1024 and 0 at and beyond the settings, and
between them the fraction of 1024 rounded down; none exceeds 1024. -/
def Obligations.MeansAndFactorsFollowTheirRules : Prop :=
  (∀ (a : Accumulators), 0 < a.n →
    let within (mean sum : Int) : Prop := mean * a.n ≤ sum ∧ sum < (mean + 1) * a.n
    within a.means.vL a.vL ∧ within a.means.iL a.iL ∧ within a.means.vB a.vB ∧ within a.means.iB a.iB) ∧
  (∀ (u : AllotmentUnit) (m : Means),
    let f := u.factors m
    let rising (k : Nat) (empty full : Nat) (x : Int) : Prop :=
      (x ≥ full → k = 1024) ∧ (x < full → x ≤ empty → k = 0) ∧
        (x < full → empty < x → (k : Int) = 1024 * (x - empty) / (full - empty))
    let falling (k : Nat) (full empty : Nat) (x : Int) : Prop :=
      (x ≤ full → k = 1024) ∧ (x > full → x ≥ empty → k = 0) ∧
        (x > full → x < empty → (k : Int) = 1024 * (empty - x) / (empty - full))
    rising f.kV u.line.vFloor u.line.vKnee m.vL ∧ rising f.kB u.battery.vBatMin u.battery.vBatLow m.vB ∧
      falling f.kC u.battery.vChgTaper u.battery.vBatFull m.vB ∧ falling f.kOv u.battery.vOvk u.battery.vMax m.vL ∧
      f.kV ≤ 1024 ∧ f.kB ≤ 1024 ∧ f.kC ≤ 1024 ∧ f.kOv ≤ 1024)

/-- The record computed in RUN, stage by stage: the budgets (R76, R77), the slewed request (R78), the walk's seven
steps over the two pools (R80), the spare and the shortfall (R82), the charge demand (R103), the regeneration stage
(R104, R105) and the four flags (R84). In SETUP and HALT the walk is its first step alone: the essential share is
drawn, nothing else is, line regeneration is 0 and the ceiling keeps the battery's room; the flags are as in RUN (R81,
R84, R108). -/
def Obligations.WalkGrantsInOrder : Prop :=
  (∀ (u : AllotmentUnit) (i : FrameInputs), i.mode = .run →
    let r := u.compute i
    let k := u.factors i.means
    let available := i.contact = .contact ∧ u.reclose.isRunning = false
    let d := i.totals
    let rt := match u.demand with
      | some x => if x.mode = .motor ∧ u.inhibit = none then x.effective else 0
      | none => 0
    let rtEff := min rt (u.record.aTrLine + u.record.aTrBat + u.line.sUp)
    let charge := if u.battery.charge = true ∧ u.batteryAvailable = true ∧ (∀ x, u.demand = some x → x.mode ≠ .brake)
      then u.battery.iBatChg * k.kC / 1024 else 0
    r.frame = i.frame ∧ r.mode = .run ∧ (r.lineAvailable = true ↔ available) ∧ r.means = i.means ∧ r.factors = k ∧
      (available → r.bLine = i.limits.iFeed * k.kV / 1024) ∧ (¬available → r.bLine = 0) ∧
      r.bBat = (if u.batteryAvailable then u.battery.iBatMax * k.kB / 1024 else 0) ∧
      r.aEssLine = min d.dEss r.bLine ∧ r.aEssBat = min (d.dEss - r.aEssLine) r.bBat ∧
      r.aCprot = min d.dCprot (r.bLine - r.aEssLine) ∧
      r.aCres = min (min u.line.rCom d.dCfree) (r.bLine - r.aEssLine - r.aCprot) ∧
      r.aTrLine = min rtEff (r.bLine - r.aEssLine - r.aCprot - r.aCres) ∧
      (u.battery.boost = true ∨ ¬available → r.aTrBat = min (rtEff - r.aTrLine) (r.bBat - r.aEssBat)) ∧
      (u.battery.boost = false → available → r.aTrBat = 0) ∧
      r.aCfree = r.aCres + min (d.dCfree - r.aCres) (r.bLine - r.aEssLine - r.aCprot - r.aCres - r.aTrLine) ∧
      r.aCh = min charge (r.bLine - r.aEssLine - r.aCprot - r.aTrLine - r.aCfree) ∧
      r.hLine = r.bLine - r.lineDraw ∧ r.hBat = r.bBat - r.aEssBat - r.aTrBat ∧ r.shortfall = d.dCfree - r.aCfree ∧
      (available → i.limits.permitted = true → i.overvolt = false →
        r.aRgLine = i.limits.iRgmax * k.kOv / 1024) ∧
      (¬available ∨ i.limits.permitted = false ∨ i.overvolt = true → r.aRgLine = 0) ∧
      r.aRgBat = (if u.batteryAvailable then u.battery.iBatChg * k.kC / 1024 else 0) ∧
      r.aRgAux = r.aEssLine + r.aEssBat + r.aCprot + r.aCfree ∧ r.aRg = min 800 (r.aRgLine + r.aRgBat + r.aRgAux) ∧
      (r.flags.cut = true ↔ ¬available) ∧ (r.flags.sag = true ↔ available ∧ k.kV < 1024) ∧
      (r.flags.inhibit = true ↔ u.inhibit ≠ none) ∧ r.flags.stale = i.stale) ∧
  (∀ (u : AllotmentUnit) (i : FrameInputs), i.mode ≠ .run →
    let r := u.compute i
    let k := u.factors i.means
    let available := i.contact = .contact ∧ u.reclose.isRunning = false
    r.frame = i.frame ∧ r.mode = i.mode ∧ (r.lineAvailable = true ↔ available) ∧ r.means = i.means ∧ r.factors = k ∧
      r.aEssLine = min i.totals.dEss r.bLine ∧
      r.aEssBat = min (i.totals.dEss - r.aEssLine) r.bBat ∧ r.aTrBat = 0 ∧ r.noneButEssential ∧
      r.hLine = r.bLine - r.aEssLine ∧ r.hBat = r.bBat - r.aEssBat ∧ r.shortfall = i.totals.dCfree ∧
      r.bLine = (if i.contact = .contact ∧ u.reclose.isRunning = false then i.limits.iFeed * k.kV / 1024 else 0) ∧
      r.bBat = (if u.batteryAvailable then u.battery.iBatMax * k.kB / 1024 else 0) ∧
      r.aRgBat = (if u.batteryAvailable then u.battery.iBatChg * k.kC / 1024 else 0) ∧
      r.aRg = min 800 (r.aRgBat + r.aEssLine + r.aEssBat) ∧
      (r.flags.cut = true ↔ ¬available) ∧ (r.flags.sag = true ↔ available ∧ k.kV < 1024) ∧
      (r.flags.inhibit = true ↔ u.inhibit ≠ none) ∧ r.flags.stale = i.stale)

/-- A frame expiry: the accumulators are taken and return to 0, a staged period is applied and the timer restarted,
the demand and the draw are supervised, the frame number goes on by one and the record that bears it is installed,
computed from what stands at the expiry, its STALE flag from the demand's age (R69 to R73, R84, R114, R118, R119). The
record is handed to the sequencer, which counts the shortfall and sheds, tests for an essential shortage and then
tests the head of its queue (R140), and waits as ALLOTMENT notice at every port but ROOF's (R83). The events of the
supervision go to the router: each is latched and counted with the new frame's number, and DEMAND_SILENT's action, and
after it OVERDRAW's, sets a traction inhibit that is clear, where routed (R115, R117, R119, R153). Where the draw
raises OVERDRAW_PERSIST in RUN the record then takes the mode cut and the sequencer its cut shedding (R89, R143). -/
def Obligations.FrameExpiryInstallsARecord : Prop :=
  ∀ s : State, s.up = true → s.allot.frameTimer.isRunning = true →
    let u := s.allot
    let period := u.stagedTf.getD u.line.tF
    let d := (u.superviseDemand).1.demand
    let w := (u.superviseDraw u.acc.means.iL s.sections.current).1
    let r := ({ u with demand := d } : AllotmentUnit).compute
      { frame := u.frame + 1, means := u.acc.means, mode := s.router.mode, contact := s.contact.contact
        limits := s.sections.limits, totals := s.aux.totals, overvolt := s.contact.monitors.overvolt.output
        stale := match d with
          | some x => decide (u.demandSettings.holdFrames < x.age ∧ x.mode ≠ .brake)
          | none => false }
    let tested := ({ s.aux.countShortfall r.shortfall with
      essentialShort := decide (r.aEssLine + r.aEssBat < s.aux.totals.dEss) } : Sequencer).testHead r s.contact.contact
    ∃ t, exec .frameExpiry s = .next t ∧
      t.allot.frame = u.frame + 1 ∧ t.allot.acc = ⟨0, 0, 0, 0, 0⟩ ∧ t.allot.stagedTf = none ∧
      t.allot.line = { u.line with tF := period } ∧ t.allot.frameTimer = .running period ∧
      t.allot.demand = d ∧ t.allot.overdraw = w.overdraw ∧ t.allot.warn = w.warn ∧ t.allot.persist = w.persist ∧
      t.allot.afterCut = u.cutMark ∧ t.allot.reclose = u.reclose ∧ t.allot.battery = u.battery ∧
      t.allot.batteryAvailable = u.batteryAvailable ∧ t.allot.overvoltRead = s.contact.monitors.overvolt.output ∧
      t.allot.record.frame = u.frame + 1 ∧ t.allot.record.means = u.acc.means ∧
      t.allot.record.factors = u.factors u.acc.means ∧
      (if s.router.mode = .run ∧ w.persist = true ∧ u.persist = false then
        t.router.mode = .halt ∧ t.allot.cutMark = true ∧ t.allot.record = r.modeCut .halt ∧ t.aux = tested.cutShed
      else t.router.mode = s.router.mode ∧ t.allot.cutMark = false ∧ t.allot.record = r ∧ t.aux = tested) ∧
      (let events := (u.superviseDemand).2 ++ (u.superviseDraw u.acc.means.iL s.sections.current).2
       let raised (k : EventKind) : Prop := ∃ e ∈ events, e.kind = k
       (∀ k : EventKind, k = .overdraw ∨ k = .overdrawPersist ∨ k = .demandSilent →
          let f := s.router.faults[k.index]
          let g := t.router.faults[k.index]
          (∀ e ∈ events, e.kind = k → g.count = min (f.count + 1) 65535 ∧ g.lastFrame = u.frame + 1 ∧
            g.lastDetail = e.detail ∧
            g.latch = if f.latch = .stopping ∨ e.cls = .stopping then .stopping else .advisory) ∧
          (¬raised k → g = f)) ∧
        (∀ source, u.inhibit = some source → t.allot.inhibit = some source) ∧
        (u.inhibit = none →
          let acts (k : EventKind) : Prop := raised k ∧ (s.router.routing[k.index]).action = true
          (acts .demandSilent → t.allot.inhibit = some .demandSilent) ∧
          (¬acts .demandSilent → acts .overdraw → t.allot.inhibit = some .overdraw) ∧
          (¬acts .demandSilent → ¬acts .overdraw → t.allot.inhibit = none))) ∧
      (∀ p : PortId, s.role p ≠ .roof → Notice.allotment t.allot.record ∈ (t.ports[p]).queue ∨
        (t.ports[p]).tx = some (.notice (.allotment t.allot.record))) ∧
      t.meas = s.meas ∧ t.contact = s.contact ∧ t.sections = s.sections ∧ t.alarm = s.alarm ∧ t.store = s.store

/-- The law on traction slew: the traction total a frame expiry leaves in force exceeds the one before by at most S_up
(R78, R85). -/
def Obligations.TractionRisesBySlewAtMost : Prop :=
  ∀ s t : State, exec .frameExpiry s = .next t →
    t.allot.record.tractionTotal ≤ s.allot.record.tractionTotal + s.allot.line.sUp

/-- The SAG and ESSENTIAL_SHORT marks of a frame expiry: SAG is raised at the first expiry that finds the line
available and weak after one that found it at full strength, and the reference follows the line while it is available
(R84); ESSENTIAL_SHORT is raised exactly when the record grants less than D_ess with the flag clear before, and the
flag is set while it grants less and clear while it does not (R144). -/
def Obligations.WeakLineAndShortageRaiseOnce : Prop :=
  ∀ s : State, s.up = true → s.allot.frameTimer.isRunning = true → ∃ t, exec .frameExpiry s = .next t ∧
    let available := s.contact.contact = .contact ∧ s.allot.reclose.isRunning = false
    let weak := t.allot.record.factors.kV < 1024
    let short := t.allot.record.aEssLine + t.allot.record.aEssBat < s.aux.totals.dEss
    t.allot.sag = (if available then (if weak then .reduced else .full) else s.allot.sag) ∧
      (if available ∧ weak ∧ s.allot.sag = .full then
        (t.router.faults[6]).count = min ((s.router.faults[6]).count + 1) 65535 ∧
          (t.router.faults[6]).lastDetail = .sectionId s.sections.current
        else t.router.faults[6] = s.router.faults[6]) ∧
      t.aux.essentialShort = decide short ∧
      (if short ∧ s.aux.essentialShort = false then
        (t.router.faults[11]).count = min ((s.router.faults[11]).count + 1) 65535 ∧
          (t.router.faults[11]).lastDetail = .absent
        else t.router.faults[11] = s.router.faults[11])

/-- k frame expiries after a DEMAND, with no other, age it to k and leave its effective magnitude as received up to
hold_frames, and then lower it by stale_decay at each expiry, except in BRAKE (R114). DEMAND_SILENT is raised at the
expiry that finds the age at cutoff_frames with the silence flag clear, and sets it; the expiry ages the demand and
lowers a stale one as above; an absent record neither ages nor falls silent (R112, R114, R115). -/
def Obligations.StaleDemandDecaysAndFallsSilent : Prop :=
  (∀ (mode : DemandMode) (received hold decay k : Nat), k ≤ 65535 →
    let d := (fun x : DemandRecord => x.grow hold decay)^[k] ⟨mode, received, received, 0, false⟩
    d.age = k ∧ d.mode = mode ∧ d.received = received ∧
      d.effective = if k ≤ hold ∨ mode = .brake then received else received - decay * (k - hold)) ∧
  (∀ (u : AllotmentUnit),
    let after := u.superviseDemand
    let f := u.demandSettings
    (u.demand = none → after = (u, [])) ∧
    (∀ d, u.demand = some d →
      let aged := min (d.age + 1) 65535
      let held : DemandRecord :=
        { mode := d.mode, received := d.received, age := aged
          effective := if f.holdFrames < aged ∧ d.mode ≠ .brake then d.effective - f.staleDecay else d.effective
          silent := d.silent || decide (f.cutoffFrames ≤ aged) }
      after.1 = { u with demand := some held } ∧
      (after.1.demand.map DemandRecord.effective = some (d.grow f.holdFrames f.staleDecay).effective) ∧
      after.2 = if f.cutoffFrames ≤ aged ∧ d.silent = false then [⟨.demandSilent, .advisory, .absent⟩] else []))

/-- The overdraw comparison of the frame that ends (R118, R119): left out after a cut and in the frame after one;
otherwise a draw above G + tol counts and raises OVERDRAW and OVERDRAW_PERSIST once per run, in that order, and any
other frame returns the count to 0 with both flags clear. -/
def Obligations.OverdrawIsCountedAndRaised : Prop :=
  ∀ (u : AllotmentUnit) (draw : Int) (current : Option Nat),
    let after := u.superviseDraw draw current
    let r := u.record
    let g := r.aEssLine + r.aCprot + r.aCfree + r.aCh + r.aTrLine
    let count := min (u.overdraw + 1) 65535
    let marked : AllotmentUnit := { u with afterCut := u.cutMark, cutMark := false }
    ((u.cutMark = true ∨ u.afterCut = true) → after = (marked, [])) ∧
    (u.cutMark = false → u.afterCut = false → draw ≤ (g : Int) + u.demandSettings.tol →
      after = ({ marked with overdraw := 0, warn := false, persist := false }, [])) ∧
    (u.cutMark = false → u.afterCut = false → (g : Int) + u.demandSettings.tol < draw →
      let warns := u.demandSettings.odWarn ≤ count ∧ u.warn = false
      let stops := u.demandSettings.odStop ≤ count ∧ u.persist = false
      after.1.overdraw = count ∧ (after.1.warn = true ↔ u.warn = true ∨ u.demandSettings.odWarn ≤ count) ∧
        (after.1.persist = true ↔ u.persist = true ∨ u.demandSettings.odStop ≤ count) ∧
        (warns → stops → after.2 =
          [⟨.overdraw, .advisory, .sectionId current⟩, ⟨.overdrawPersist, .stopping, .sectionId current⟩]) ∧
        (warns → ¬stops → after.2 = [⟨.overdraw, .advisory, .sectionId current⟩]) ∧
        (¬warns → stops → after.2 = [⟨.overdrawPersist, .stopping, .sectionId current⟩]) ∧
        (¬warns → ¬stops → after.2 = []))

/-- The modifications between expiries raise no consumer's total: neither a cut (R86), an overvoltage cut (R88), a
mode cut (R89), a limit change (R90), a battery cut (R98) nor the lowering of I_bat_max (R100). A cut leaves no line
share; the line draw above a lower feeder limit, and no more, is taken in the reverse of the walk's order (R90); the
battery draw above a lower I_bat_max, and no more, is taken from traction and then from the essential share (R100). A
limit change that lowers the line budget or the line regeneration share modifies the record, marks the frame a cut
frame and publishes, and another changes nothing (R90); an I_bat_max below the budget in force modifies the record and
publishes without the mark, and another changes nothing (R100). -/
def Obligations.ModificationsRaiseNoTotal : Prop :=
  (∀ (r : Record) (m : Mode) (l : Limits) (i : Nat), r.Sums →
    let lowers (q : Record) : Prop :=
      q.essentialTotal ≤ r.essentialTotal ∧ q.aCprot ≤ r.aCprot ∧ q.aCfree ≤ r.aCfree ∧ q.aCh ≤ r.aCh ∧
        q.tractionTotal ≤ r.tractionTotal ∧ q.aRg ≤ r.aRg ∧ q.frame = r.frame ∧ q.means = r.means ∧
        q.factors = r.factors ∧ q.Sums
    lowers r.cutNow ∧ lowers r.overvoltageCut ∧ lowers (r.modeCut m) ∧ lowers (r.fitLimits l) ∧ lowers r.batteryCut ∧
      (i < r.bBat → lowers (r.fitBattery i)) ∧
      (r.cutNow.noneButEssential ∧ r.cutNow.aEssLine = 0 ∧ r.cutNow.bLine = 0 ∧ r.cutNow.flags.cut = true ∧
        r.cutNow.aEssBat = min r.essentialTotal r.bBat ∧
        r.cutNow.aTrBat = min r.tractionTotal (r.bBat - r.cutNow.aEssBat)) ∧
      (r.overvoltageCut = { r with aRgLine := 0, aRg := min 800 (r.aRgBat + r.aRgAux) }) ∧
      ((r.modeCut m).noneButEssential ∧ (r.modeCut m).aEssLine = r.aEssLine ∧ (r.modeCut m).aEssBat = r.aEssBat ∧
        (r.modeCut m).mode = m ∧ (r.modeCut m).flags = r.flags) ∧
      (r.bLine ≤ l.iFeed → (r.fitLimits l).bLine = r.bLine ∧ (r.fitLimits l).lineDraw = r.lineDraw ∧
        (r.fitLimits l).hLine = r.hLine) ∧
      (l.iFeed < r.bLine →
        let q := r.fitLimits l
        q.bLine = l.iFeed ∧ q.lineDraw = min r.lineDraw l.iFeed ∧ q.hLine = l.iFeed - q.lineDraw ∧
          (q.aCfree < r.aCfree → q.aCh = 0) ∧
          (q.aTrLine < r.aTrLine → q.aCh = 0 ∧ q.aCfree ≤ r.aCres) ∧
          (q.aCres < r.aCres → q.aCh = 0 ∧ q.aTrLine = 0 ∧ q.aCfree = q.aCres) ∧
          (q.aCprot < r.aCprot → q.aCh = 0 ∧ q.aTrLine = 0 ∧ q.aCfree = 0) ∧
          (q.aEssLine < r.aEssLine → q.aCh = 0 ∧ q.aTrLine = 0 ∧ q.aCfree = 0 ∧ q.aCprot = 0)) ∧
      (l.permitted = false → (r.fitLimits l).aRgLine = 0) ∧
      (l.permitted = true → (r.fitLimits l).aRgLine = min r.aRgLine l.iRgmax) ∧
      ((r.fitLimits l).aEssBat = r.aEssBat ∧ (r.fitLimits l).aTrBat = r.aTrBat ∧
        (r.fitLimits l).shortfall = r.shortfall ∧ (r.fitLimits l).flags = r.flags) ∧
      (i < r.bBat →
        let q := r.fitBattery i
        q.bBat = i ∧ q.aEssBat + q.aTrBat = min (r.aEssBat + r.aTrBat) i ∧ (q.aEssBat < r.aEssBat → q.aTrBat = 0) ∧
          q.hBat = i - q.aEssBat - q.aTrBat ∧ q.lineDraw = r.lineDraw ∧ q.bLine = r.bLine ∧ q.aRgLine = r.aRgLine ∧
          q.aRgBat = r.aRgBat ∧ q.flags = r.flags) ∧
      (r.batteryCut.bBat = 0 ∧ r.batteryCut.aEssBat = 0 ∧ r.batteryCut.aTrBat = 0 ∧ r.batteryCut.aRgBat = 0 ∧
        r.batteryCut.hBat = 0 ∧ r.batteryCut.aCh = 0 ∧ r.batteryCut.hLine = r.hLine + r.aCh ∧
        r.batteryCut.aTrLine = r.aTrLine)) ∧
  (∀ (s : State) (l : Limits) (i : Nat),
    let r := s.allot.record
    (s.takeLimits l = if l.iFeed < r.bLine ∨ (0 < r.aRgLine ∧ (l.permitted = false ∨ l.iRgmax < r.aRgLine)) then
      ({ s with allot := { s.allot with record := r.fitLimits l, cutMark := true } } : State).notify
        (.allotment (r.fitLimits l)) else s) ∧
    (s.takeBatteryLimit i = if i < r.bBat then
      ({ s with allot := { s.allot with record := r.fitBattery i } } : State).notify (.allotment (r.fitBattery i))
      else s))

/-- Every step keeps the sums of the record in force: shares and spare make up their budgets, and the regeneration
ceiling its parts (R80, R82, R105). Every step keeps the law on the line: the line shares of draw fit the line budget,
and the line budget the feeder limit of the section then current; outside RUN only the essential line share is
granted, and without the line none is (R85), given that the current section is in the table (R56). Every step keeps
the law on the battery: A_ess_bat + A_tr_bat ≤ B_bat ≤ I_bat_max, and no battery budget while the battery is ISOLATED
(R100). -/
def Obligations.AllotmentLawsAreKept : Prop :=
  (∀ s t : State, s.allot.record.Sums → step s = .next t → t.allot.record.Sums) ∧
  (∀ s t : State, s.SectionLaw → s.LineLaw → step s = .next t → t.LineLaw) ∧
  (∀ s t : State, s.BatteryLaw → step s = .next t → t.BatteryLaw)

/-- DEMAND from a TRACTION port: the mode and the magnitude, 800 at most, become the demand in force, fresh and not
silent, and nothing else changes; a mode byte above 2 is answered FORMAT and another role's request ROLE_REFUSED
(R113). TRACTION_INHIBIT from the CAB: SET sets it with source CAB where it was clear, CLEAR clears it where it was
set, and otherwise it is answered ALREADY with the source kept; the allotment in force is not modified (R116, R117).
-/
def Obligations.DemandAndInhibitAreTaken : Prop :=
  (∀ (p : PortId) (tag mode : Byte) (magnitude : Half) (s : State), s.Hears p →
    let h := s.hunt p
    let reply (u : State) (code : ReplyCode) : Prop :=
      exec (.demand p tag mode magnitude) s = .next (u.answered p 0x10 tag code)
    (s.role p ≠ .traction → reply h .roleRefused) ∧
    (s.role p = .traction →
      (2 < mode.toNat → reply h .format) ∧
      (∀ m : DemandMode, mode = (match m with | .motor => 0 | .brake => 1 | .coast => 2) →
        reply { h with allot := { s.allot with
          demand := some ⟨m, min magnitude.toNat 800, min magnitude.toNat 800, 0, false⟩ } }
          (if 800 < magnitude.toNat then .clamped else .ok)))) ∧
  (∀ (p : PortId) (tag value : Byte) (s : State), s.Hears p →
    let h := s.hunt p
    let reply (u : State) (code : ReplyCode) : Prop :=
      exec (.tractionInhibit p tag value) s = .next (u.answered p 0x35 tag code)
    (s.role p ≠ .cab → reply h .roleRefused) ∧
    (s.role p = .cab →
      (1 < value.toNat → reply h .format) ∧
      (value = 1 → s.allot.inhibit = none → reply { h with allot := { s.allot with inhibit := some .cab } } .ok) ∧
      (value = 1 → s.allot.inhibit ≠ none → reply h .already) ∧
      (value = 0 → s.allot.inhibit ≠ none → reply { h with allot := { s.allot with inhibit := none } } .ok) ∧
      (value = 0 → s.allot.inhibit = none → reply h .already)))

/-- BATTERY from the CAB: the state it names is stored; a change to ISOLATED takes the battery cut on the record in
force at once, field by field, marks a cut frame where charge was granted and publishes the record where a field was
lowered, and a change to AVAILABLE modifies nothing (R97, R98). -/
def Obligations.BatteryIsReported : Prop :=
  ∀ (p : PortId) (tag value : Byte) (s : State), s.Hears p →
    let h := s.hunt p
    let reply (u : State) (code : ReplyCode) : Prop :=
      exec (.battery p tag value) s = .next (u.answered p 0x34 tag code)
    (s.role p ≠ .cab → reply h .roleRefused) ∧
    (s.role p = .cab →
      (1 < value.toNat → reply h .format) ∧
      (value = 1 → s.allot.batteryAvailable = true → reply h .already) ∧
      (value = 0 → s.allot.batteryAvailable = false → reply h .already) ∧
      (value = 1 → s.allot.batteryAvailable = false →
        reply { h with allot := { s.allot with batteryAvailable := true } } .ok) ∧
      (value = 0 → s.allot.batteryAvailable = true →
        let r := s.allot.record
        let aux := r.aEssLine + r.aCprot + r.aCfree
        let total := min 800 (r.aRgLine + aux)
        let isolated : Record := { r with
          bBat := 0, aEssBat := 0, aTrBat := 0, aRgBat := 0, hBat := 0, aCh := 0, hLine := r.hLine + r.aCh
          aRgAux := aux, aRg := total }
        let cut : State := { h with allot := { s.allot with
          batteryAvailable := false, record := isolated, cutMark := s.allot.cutMark || decide (0 < r.aCh) } }
        let lowers := 0 < r.bBat ∨ 0 < r.aEssBat ∨ 0 < r.aTrBat ∨ 0 < r.aRgBat ∨ 0 < r.hBat ∨ 0 < r.aCh ∨
          aux < r.aRgAux ∨ total < r.aRg
        reply (if lowers then cut.notify (.allotment isolated) else cut) .ok))

/-! ## Auxiliary sequencer (chapters 8 and 9) -/

/-- AUX_START from an AUXILIARY port, by the record's state: an IDLE record wants on and joins the queue, one in
COOLDOWN, or in SHED with auto_restart, wants on and waits for its off-time, and the rest change nothing (R127).
AUX_STOP from an AUXILIARY port, by the record's state (R128): a QUEUED record leaves the queue for IDLE, a STARTING
or RUNNING one stops into COOLDOWN with an AUX_ORDERS notice to the AUXILIARY ports (R136), and a waiting want is
dropped. A record joins the queue behind the last record of its tier, an ESSENTIAL one ahead of every COMFORT one, and
the stall timer starts anew with start_wait_max where that makes it the head (R133, R135); a record that leaves the
queue lets those behind it move up, and the timer starts anew for a new head, stops with an empty queue and otherwise
runs on (R133, R135). The demand totals are sums over the records (R79, R137): D_ess of the inrush current of an
ESSENTIAL record in STARTING and the running current of one in RUNNING, D_cprot of the same for COMFORT records, in
RUNNING while the on-timer runs, and D_cfree of every other COMFORT record in RUNNING; a slot is on in AUX_ORDERS
exactly while its record is STARTING or RUNNING (R136). -/
def Obligations.AuxStartAndStopActByState : Prop :=
  (∀ (p : PortId) (tag slot : Byte) (s : State), s.Hears p →
    let h := s.hunt p
    let a := s.aux
    let reply (u : State) (code : ReplyCode) : Prop :=
      exec (.auxStart p tag slot) s = .next (u.answered p 0x18 tag code)
    (s.role p ≠ .auxiliary → reply h .roleRefused) ∧
    (s.role p = .auxiliary →
      (11 < slot.toNat → reply h .noSuch) ∧
      ∀ i : Slot, i.val = slot.toNat →
        (a.table[i] = none → reply h .noSuch) ∧
        ∀ r, a.table[i] = some r →
          let wanted : AuxRecord := { r with want := true }
          (r.state = .idle → reply
            { h with aux := (a.put i { wanted with state := .queued, offInhibit := .stopped }).join i } .ok) ∧
          (r.state = .cooldown → r.want = false → reply { h with aux := a.put i wanted } .deferred) ∧
          (r.state = .cooldown → r.want = true → reply h .already) ∧
          (r.state = .queued ∨ r.state = .starting ∨ r.state = .running → reply h .already) ∧
          (r.state = .shed → r.config.autoRestart = false → reply h .busy) ∧
          (r.state = .shed → r.config.autoRestart = true → r.want = false →
            reply { h with aux := a.put i wanted } .deferred) ∧
          (r.state = .shed → r.config.autoRestart = true → r.want = true → reply h .already))) ∧
  (∀ (p : PortId) (tag slot : Byte) (s : State), s.Hears p →
    let h := s.hunt p
    let a := s.aux
    let reply (u : State) (code : ReplyCode) : Prop :=
      exec (.auxStop p tag slot) s = .next (u.answered p 0x19 tag code)
    (s.role p ≠ .auxiliary → reply h .roleRefused) ∧
    (s.role p = .auxiliary →
      (11 < slot.toNat → reply h .noSuch) ∧
      ∀ i : Slot, i.val = slot.toNat →
        (a.table[i] = none → reply h .noSuch) ∧
        ∀ r, a.table[i] = some r →
          (r.state = .idle → reply h .already) ∧
          (r.state = .cooldown ∨ r.state = .shed → r.want = false → reply h .already) ∧
          (r.state = .cooldown ∨ r.state = .shed → r.want = true →
            reply { h with aux := a.put i { r with want := false } } .ok) ∧
          (r.state = .queued → reply { h with aux := ((a.leave i).put i
            { r with config := r.pendingPart.getD r.config, pendingPart := none, state := .idle,
                     want := false, offInhibit := .stopped, stalled := false }) } .ok) ∧
          (r.state = .starting ∨ r.state = .running →
            let stopped := a.stopTo i r .cooldown false
            reply (({ h with aux := stopped } : State).notify (.auxOrders stopped.orders)) .ok))) ∧
  ((∀ (a : Sequencer) (i : Slot) (x y : List Slot), a.queue = x ++ y → i ∉ a.queue →
    (∀ j ∈ x, a.isEssential j = true) → (∀ j ∈ y, a.isEssential j = false) →
      a.join i = { a with
        queue := (if a.isEssential i = true then x ++ i :: y else x ++ y ++ [i])
        stall := (if x = [] ∧ (a.isEssential i = true ∨ y = []) then .running a.settings.startWaitMax
          else a.stall) }) ∧
  (∀ (a : Sequencer) (i : Slot) (x y : List Slot), a.queue = x ++ i :: y → i ∉ x → i ∉ y →
    a.leave i = { a with
      queue := x ++ y
      stall := (if x ++ y = [] then .stopped else if x = [] then .running a.settings.startWaitMax else a.stall) })) ∧
  (∀ a : Sequencer,
    let sum (f : AuxRecord → Nat) : Nat := ((List.finRange 12).map fun i : Slot => ((a.table[i]).map f).getD 0).sum
    a.totals.dEss = sum (fun r => if r.config.tier = .essential then
      (if r.state = .starting then r.config.iIn else if r.state = .running then r.config.iRun else 0) else 0) ∧
    a.totals.dCprot = sum (fun r => if r.config.tier = .comfort then
      (if r.state = .starting then r.config.iIn
        else if r.state = .running ∧ r.onTimer.isRunning = true then r.config.iRun else 0) else 0) ∧
    a.totals.dCfree = sum (fun r =>
      if r.config.tier = .comfort ∧ r.state = .running ∧ r.onTimer.isRunning = false then r.config.iRun else 0) ∧
    ∀ i : Slot, a.orders[i] = true ↔ ∃ r, a.table[i] = some r ∧ (r.state = .starting ∨ r.state = .running))

/-- A stop of a STARTING or RUNNING record, into COOLDOWN or SHED: its timers stop, its stamp goes and those above it
move down, the starting slot is freed if it held it, and it is held off for t_off_min; with t_off_min 0 it leaves the
state at once, to the queue or to IDLE, where its pending part is applied (R125, R128, R130, R131, R132, R142). -/
def Obligations.StopsFreeSlotAndStamp : Prop :=
  ∀ (a : Sequencer) (i : Slot) (r : AuxRecord) (shed want : Bool), a.table[i] = some r →
    let b := a.stopTo i r (if shed then .shed else .cooldown) want
    let again := want && (!shed || r.config.autoRestart)
    b.starting = (if a.starting = some i then none else a.starting) ∧
      (∃ q, b.table[i] = some q ∧ q.stamp = none ∧ q.inrush = .stopped ∧ q.onTimer = .stopped ∧ q.runTimer = .stopped ∧
        (0 < r.config.tOffMin → q.state = (if shed then .shed else .cooldown) ∧ q.want = want ∧
          q.offInhibit = .running (r.config.tOffMin * 1000) ∧ q.config = r.config ∧ q.pendingPart = r.pendingPart ∧
          b.queue = a.queue) ∧
        (r.config.tOffMin = 0 → again = true → q.state = .queued ∧ q.want = true ∧ q.config = r.config ∧
          q.offInhibit = .stopped ∧ i ∈ b.queue) ∧
        (r.config.tOffMin = 0 → again = false → q.state = .idle ∧ q.want = false ∧ q.offInhibit = .stopped ∧
          q.config = r.pendingPart.getD r.config ∧ q.pendingPart = none ∧ b.queue = a.queue)) ∧
      (∀ j : Slot, j ≠ i → ∀ x, a.table[j] = some x → ∃ q, b.table[j] = some q ∧ q.state = x.state ∧
        q.config = x.config ∧ q.want = x.want ∧
        q.stamp = x.stamp.map fun m => match r.stamp with
          | some n => if n < m then m - 1 else m
          | none => m)

/-- AUX_WRITE, by its checks in their order: slot, mode, then tier, mode byte and auto_restart; its fields brought
into range, the part becomes or replaces the configured part of an absent or IDLE record and waits as the pending part
of any other (R124). Auto_restart's byte is read as 0 no, 1 yes (log 13). AUX_REMOVE by the CAB makes an IDLE record
absent; a slot without a record is answered NO_SUCH, a request in HALT MODE_REFUSED and a record in another state BUSY
(R126). -/
def Obligations.AuxWriteAndRemoveKeepTheTable : Prop :=
  (∀ (p : PortId) (tag slot : Byte) (f : AuxFields) (s : State), s.Hears p →
    let h := s.hunt p
    let a := s.aux
    let reply (u : State) (code : ReplyCode) : Prop :=
      exec (.auxWrite p tag slot f) s = .next (u.answered p 0x21 tag code)
    (s.role p ≠ .cab → reply h .roleRefused) ∧
    (s.role p = .cab →
      (11 < slot.toNat → reply h .noSuch) ∧
      ∀ i : Slot, i.val = slot.toNat →
        (s.router.mode = .halt → reply h .modeRefused) ∧
        (s.router.mode ≠ .halt → (1 < f.tier.toNat ∨ 1 < f.mode.toNat ∨ 1 < f.autoRestart.toNat) → reply h .format) ∧
        (s.router.mode ≠ .halt → f.tier.toNat ≤ 1 → f.mode.toNat ≤ 1 → f.autoRestart.toNat ≤ 1 →
          let iRun := max 1 (min f.iRun.toNat 200)
          let part : AuxConfig :=
            { tier := if f.tier = 0 then .essential else .comfort
              mode := if f.mode = 0 then .continuous else .timed
              iRun := iRun
              iIn := max iRun (min f.iIn.toNat 400)
              tIn := max 10 (min f.tIn.toNat 5000)
              tOnMin := min f.tOnMin.toNat 600
              tOffMin := min f.tOffMin.toNat 600
              tRun := if f.mode = 0 then none else some (max 1 (min f.tRun.toNat 3600))
              autoRestart := f.autoRestart == 1 }
          let kept := part.iRun = f.iRun.toNat ∧ part.iIn = f.iIn.toNat ∧ part.tIn = f.tIn.toNat ∧
            part.tOnMin = f.tOnMin.toNat ∧ part.tOffMin = f.tOffMin.toNat ∧
            (f.mode = 1 → part.tRun = some f.tRun.toNat)
          (a.table[i] = none → reply { h with aux := (a.put i
            ⟨part, .idle, false, .stopped, .stopped, .stopped, .stopped, none, false, none⟩) }
            (if kept then .ok else .clamped)) ∧
          (∀ r, a.table[i] = some r →
            (r.state = .idle → reply { h with aux := a.put i { r with config := part } }
              (if kept then .ok else .clamped)) ∧
            (r.state ≠ .idle → reply { h with aux := a.put i { r with pendingPart := some part } } .deferred))))) ∧
  (∀ (p : PortId) (tag slot : Byte) (s : State), s.Hears p →
    let h := s.hunt p
    let reply (u : State) (code : ReplyCode) : Prop :=
      exec (.auxRemove p tag slot) s = .next (u.answered p 0x22 tag code)
    (s.role p ≠ .cab → reply h .roleRefused) ∧
    (s.role p = .cab →
      (11 < slot.toNat → reply h .noSuch) ∧
      ∀ i : Slot, i.val = slot.toNat →
        (s.aux.table[i] = none → reply h .noSuch) ∧
        ∀ r, s.aux.table[i] = some r →
          (s.router.mode = .halt → reply h .modeRefused) ∧
          (s.router.mode ≠ .halt → r.state ≠ .idle → reply h .busy) ∧
          (s.router.mode ≠ .halt → r.state = .idle →
            reply { h with aux := { s.aux with table := s.aux.table.set i none } } .ok)))

/-- The timers of a present record. The inrush timer's expiry takes a STARTING record to RUNNING with the next stamp,
its on-timer and, for a TIMED one, its run timer started, and frees the starting slot (R129); the on-timer's sets it
expired (R130); the run timer's stops the record with its want off and an AUX_ORDERS notice (R131); the off-inhibit
timer's takes it to the queue or to IDLE (R132). Expiries of timers that do not run do nothing (log 3). The stall
timer's expiry: it stays expired, and a head of the queue not yet reported is marked stalled and raises START_STALLED
with its slot (R135, R149). -/
def Obligations.AuxiliaryTimersExpire : Prop :=
  (∀ (i : Slot) (r : AuxRecord) (s : State), s.up = true → s.aux.table[i] = some r →
    let a := s.aux
    let gives (c : Instr) (b : Sequencer) : Prop := exec c s = .next ({ s with aux := b } : State).beginWaiting
    (r.state = .starting → r.inrush.isRunning = true → gives (.inrushExpiry i)
      (({ a with starting := if a.starting = some i then none else a.starting } : Sequencer).put i
        { r with state := .running, inrush := .stopped, stamp := some (a.runningCount + 1),
                 onTimer := (if r.config.tOnMin = 0 then .expired else .running (r.config.tOnMin * 1000)),
                 runTimer := match r.config.mode, r.config.tRun with
                   | .timed, some n => .running (n * 1000)
                   | _, _ => .stopped })) ∧
    (r.onTimer.isRunning = true → gives (.onTimerExpiry i) (a.put i { r with onTimer := .expired })) ∧
    (r.state = .running → r.runTimer.isRunning = true →
      let stopped := a.stopTo i r .cooldown false
      exec (.runTimerExpiry i) s =
        .next (({ s with aux := stopped } : State).notify (.auxOrders stopped.orders)).beginWaiting) ∧
    (r.offInhibit.isRunning = true →
      let idle : AuxRecord := { r with
        config := r.pendingPart.getD r.config, pendingPart := none, state := .idle, want := false,
        offInhibit := .stopped, stalled := false }
      let queued : AuxRecord := { r with state := .queued, offInhibit := .stopped }
      let again : Bool := r.want && (r.state == .cooldown || r.config.autoRestart)
      (r.state = .cooldown ∨ r.state = .shed →
        gives (.offInhibitExpiry i) (if again then (a.put i queued).join i else a.put i idle))) ∧
    (r.inrush.isRunning = false → exec (.inrushExpiry i) s = .next s.beginWaiting) ∧
    (r.onTimer.isRunning = false → exec (.onTimerExpiry i) s = .next s.beginWaiting) ∧
    (r.runTimer.isRunning = false → exec (.runTimerExpiry i) s = .next s.beginWaiting) ∧
    (r.offInhibit.isRunning = false → exec (.offInhibitExpiry i) s = .next s.beginWaiting)) ∧
  (∀ (i : Slot) (rest : List Slot) (r : AuxRecord) (s : State), s.up = true → s.aux.stall.isRunning = true →
    s.aux.queue = i :: rest → s.aux.table[i] = some r →
      (r.stalled = true → exec .stallTimerExpiry s =
        .next ({ s with aux := { s.aux with stall := .expired } } : State).beginWaiting) ∧
      (r.stalled = false → ∃ t, exec .stallTimerExpiry s = .next t ∧ t.aux.stall = .expired ∧
        t.aux.table[i] = some { r with stalled := true } ∧ t.aux.queue = s.aux.queue ∧
        t.aux.starting = s.aux.starting ∧ (t.router.faults[12]).lastDetail = .slot i ∧
        (t.router.faults[12]).count = min ((s.router.faults[12]).count + 1) 65535 ∧
        t.router.mode = s.router.mode ∧ t.allot = s.allot ∧ t.contact = s.contact))

/-- The test of the head at a frame publication: with the starting slot free, an ESSENTIAL head that fits H_line +
H_bat, or a COMFORT head that fits H_line in RUN with the line in contact, leaves the queue and starts its inrush;
otherwise nothing changes, and nothing behind the head is tested (R134). The count of publications with a shortfall, a
publication without one returning it to 0 (R140). Frame shedding at the shed_frames-th in a row takes COMFORT records
in RUNNING alone whose on-timer has expired, in descending order of stamp, sheds something whenever there is one, and
sheds them all or at least the shortfall, and no further: without the record taken last it falls short (R140, R141).
-/
def Obligations.PublicationStartsAndSheds : Prop :=
  (∀ (a : Sequencer) (pub : Record) (cs : ContactState),
    let b := a.testHead pub cs
    (a.queue = [] ∨ a.starting ≠ none → b = a) ∧
    (∀ i rest r, a.starting = none → a.queue = i :: rest → a.table[i] = some r →
      let fits := if r.config.tier = .essential then r.config.iIn ≤ pub.hLine + pub.hBat
        else r.config.iIn ≤ pub.hLine ∧ pub.mode = .run ∧ cs = .contact
      (¬fits → b = a) ∧
      (fits → i ∉ rest → b.queue = rest ∧ b.starting = some i ∧
        b.table[i] = some { r with state := .starting, stalled := false, inrush := .running r.config.tIn } ∧
        (∀ j : Slot, j ≠ i → b.table[j] = a.table[j]) ∧
        b.stall = if rest = [] then .stopped else .running a.settings.startWaitMax))) ∧
  (∀ (a : Sequencer) (shortfall : Nat),
    let b := a.countShortfall shortfall
    let eligible (i : Slot) : Bool := (a.table[i]).any fun r =>
      r.config.tier == .comfort && r.state == .running && r.onTimer == .expired
    let shed : List Slot := slots.filter fun i => decide (b.isIn i .running = false) && a.isIn i .running
    let current (l : List Slot) : Nat := (l.map fun i => ((a.table[i]).map fun r => r.config.iRun).getD 0).sum
    (shortfall = 0 → b = { a with shortfallCount := 0 }) ∧
    (0 < shortfall → a.shortfallCount + 1 < a.settings.shedFrames →
      b = { a with shortfallCount := a.shortfallCount + 1 }) ∧
    (0 < shortfall → a.settings.shedFrames ≤ a.shortfallCount + 1 →
      b.shortfallCount = 0 ∧ (∀ i ∈ shed, eligible i = true) ∧
        ((slots.filter eligible) ≠ [] → shed ≠ []) ∧
        ((∀ i ∈ slots.filter eligible, i ∈ shed) ∨ shortfall ≤ current shed) ∧
        (∀ i ∈ shed, ∀ j ∈ slots.filter eligible, j ∉ shed → a.stampOf j ≤ a.stampOf i) ∧
        (shed ≠ [] → ∃ i ∈ shed, (∀ j ∈ shed, a.stampOf i ≤ a.stampOf j) ∧ current (shed.erase i) < shortfall)))

/-- Every step keeps the laws of the start queue and of the starting slot: the queue holds exactly the QUEUED records,
each once, ESSENTIAL ahead of COMFORT, and the starting slot exactly the STARTING one (R133, R134). Every step keeps
the law on the stamps: those of the RUNNING records are 1 to their number (R130), given the laws of the queue and the
starting slot. Every step keeps the law on comfort: no COMFORT record is in STARTING or RUNNING while the contact
state is not CONTACT or the mode is not RUN (R143). Every step keeps the law on the mode: RUN only while no latch is
STOPPING (R157). Every step keeps the law on the save: while one is in flight the image is neither valid nor blank and
its state is WRITING (R163). -/
def Obligations.SequencerAndModeLawsAreKept : Prop :=
  (∀ s t : State, s.aux.Law → step s = .next t → t.aux.Law) ∧
  (∀ s t : State, s.aux.Law → s.aux.StampLaw → step s = .next t → t.aux.StampLaw) ∧
  (∀ s t : State, s.ComfortLaw → step s = .next t → t.ComfortLaw) ∧
  (∀ s t : State, s.RunLaw → step s = .next t → t.RunLaw) ∧
  (∀ s t : State, s.SaveLaw → step s = .next t → t.SaveLaw)

/-! ## Event router and configuration store (chapters 10 and 11) -/

/-- The handling of an event: the fault-table entry of its kind takes the higher latch, counts the occurrence and
keeps its frame and detail, the other entries stay; a STOPPING event takes RUN to HALT and no other mode anywhere; and
every port of the kind's mask has an EVENT notice waiting that carries the event (R152, R153, R157). RAISE_FAULT by
the CAB in any mode: USER_FAULT with the class carried and the number as its detail is handled whole before the reply;
a number outside 1..99 or a class byte above 1 is answered FORMAT (R155). -/
def Obligations.EventsAreLatchedAndNotified : Prop :=
  (∀ (s : State) (e : Event),
    let t := s.handleEvent e
    let i := e.kind.index
    let old := s.router.faults[i]
    let acted := (s.router.routing[i]).action && e.kind.action.isSome
    (t.router.faults[i] =
      { latch := if e.cls = .stopping ∨ old.latch = .stopping then .stopping else .advisory
        count := min (old.count + 1) 65535, lastFrame := s.allot.frame, lastDetail := e.detail }) ∧
      (∀ j : Fin 16, j ≠ i → t.router.faults[j] = s.router.faults[j]) ∧ t.router.routing = s.router.routing ∧
      t.router.mode = (if e.cls = .stopping ∧ s.router.mode = .run then .halt else s.router.mode) ∧
      (∀ p : PortId, (s.router.routing[i]).mask.getLsbD p.val = true →
        ∃ m : BitVec 16, m.getLsbD i.val = true ∧ Notice.event m e acted ∈ (t.ports[p]).queue) ∧
      (acted = true → ∀ x, e.kind.action = some (.tractionInhibit x) →
        t.allot.inhibit = some (s.allot.inhibit.getD x)) ∧
      (acted = true → e.kind.action = some .lowerPoles → ∀ q : Pole,
        (t.contact.poles.get q).state ≠ .onWire ∧ (t.contact.poles.get q).state ≠ .raising) ∧
      (acted = false → t.contact = s.contact ∧ t.allot.inhibit = s.allot.inhibit)) ∧
  (∀ (p : PortId) (tag number cls : Byte) (s : State), s.Hears p →
    let h := s.hunt p
    let reply (u : State) (code : ReplyCode) : Prop :=
      exec (.raiseFault p tag number cls) s = .next (u.answered p 0x2C tag code)
    (s.role p ≠ .cab → reply h .roleRefused) ∧
    (s.role p = .cab →
      ((number = 0 ∨ 99 < number.toNat ∨ 1 < cls.toNat) → reply h .format) ∧
      (1 ≤ number.toNat → number.toNat ≤ 99 → cls.toNat ≤ 1 → ∃ u : State, reply u .ok ∧
        (u.router.faults[15]).lastDetail = .user number.toNat ∧
        (u.router.faults[15]).count = min ((s.router.faults[15]).count + 1) 65535 ∧
        (cls = 1 → (u.router.faults[15]).latch = .stopping ∧ u.router.mode ≠ .run) ∧
        (cls = 0 → u.router.mode = s.router.mode ∧ u.allot = s.allot ∧ u.aux = s.aux) ∧
        u.contact = s.contact ∧ u.meas = s.meas ∧ u.alarm = s.alarm ∧ u.sections = s.sections ∧ u.store = s.store)))

/-- ROUTE_WRITE, by its checks in their order: role, kind, mode, then mask and enable; the kind's entry takes both, an
action written on for a kind without one being stored off with CLAMPED (R150, R151). -/
def Obligations.RouteWriteStoresTheEntry : Prop :=
  ∀ (p : PortId) (tag kind mask enable : Byte) (s : State), s.Hears p →
    let h := s.hunt p
    let reply (u : State) (code : ReplyCode) : Prop :=
      exec (.routeWrite p tag kind mask enable) s = .next (u.answered p 0x27 tag code)
    (s.role p ≠ .cab → reply h .roleRefused) ∧
    (s.role p = .cab →
      ((kind = 0 ∨ 16 < kind.toNat) → reply h .noSuch) ∧
      ∀ k : EventKind, k.index.val + 1 = kind.toNat →
        (s.router.mode = .halt → reply h .modeRefused) ∧
        (s.router.mode ≠ .halt → (15 < mask.toNat ∨ 1 < enable.toNat) → reply h .format) ∧
        (s.router.mode ≠ .halt → mask.toNat ≤ 15 → enable.toNat ≤ 1 →
          let routable := k.index.val ∈ [0, 1, 2, 8, 10]
          reply { h with router := { s.router with routing :=
              (s.router.routing.set k.index ⟨mask.setWidth 4, decide (enable = 1 ∧ routable)⟩) } }
            (if enable = 1 ∧ ¬routable then .clamped else .ok)))

/-- CLEAR_FAULT by the CAB: an ADVISORY latch clears in every mode and a STOPPING one in SETUP alone, the count, the
frame and the detail kept; no latch is answered ALREADY and a kind outside 1..16 NO_SUCH (R154). -/
def Obligations.ClearFaultActsByLatch : Prop :=
  ∀ (p : PortId) (tag kind : Byte) (s : State), s.Hears p →
    let h := s.hunt p
    let reply (u : State) (code : ReplyCode) : Prop :=
      exec (.clearFault p tag kind) s = .next (u.answered p 0x2B tag code)
    (s.role p ≠ .cab → reply h .roleRefused) ∧
    (s.role p = .cab →
      ((kind = 0 ∨ 16 < kind.toNat) → reply h .noSuch) ∧
      ∀ k : EventKind, k.index.val + 1 = kind.toNat →
        let f := s.router.faults[k.index]
        let cleared : State := { h with router := { s.router with faults :=
          (s.router.faults.set k.index ⟨.none, f.count, f.lastFrame, f.lastDetail⟩) } }
        (f.latch = .none → reply h .already) ∧ (f.latch = .advisory → reply cleared .ok) ∧
        (f.latch = .stopping → s.router.mode = .setup → reply cleared .ok) ∧
        (f.latch = .stopping → s.router.mode ≠ .setup → reply h .modeRefused))

/-- MODE and CHECK by the CAB. MODE(SETUP) leaves RUN and HALT with a mode cut of the record in force, field by field,
the frame marked a cut frame, the sequencer's cut shedding, an AUX_ORDERS notice where it switched something off, the
ALLOTMENT notice and a MODE notice (R89, R136, R143, R158); MODE(RUN) is tested against its conditions in their order
and enters RUN, telling the ports alone (R157, R158). CHECK counts the findings of each class and lists the first
sixteen of its level's classes (R160). Cut shedding takes every COMFORT record in STARTING or RUNNING to SHED, held
off for its t_off_min, or, with t_off_min 0, on to QUEUED where it restarts and is wanted and to IDLE otherwise; it
frees a starting slot so held, returns the shortfall count to 0 and leaves every other record but for its stamp (R132,
R142, R143). The plan check's findings are exactly those of R159's table, each with its class, its code and its
subject, in ascending order of class, code and subject port (R159). -/
def Obligations.ModeAndCheckFollowTheirTables : Prop :=
  (∀ (p : PortId) (tag b : Byte) (s : State), s.Hears p →
    let h := s.hunt p
    let mode (u : State) (code : ReplyCode) : Prop := exec (.mode p tag b) s = .next (u.answered p 0x2E tag code)
    let entered (m : Mode) : State := { h with router := { s.router with mode := m } }
    let stopping := ∃ i : Fin 16, (s.router.faults[i]).latch = .stopping
    (s.role p ≠ .cab → mode h .roleRefused ∧
      exec (.check p tag b) s = .next (h.answered p 0x2F tag .roleRefused)) ∧
    (s.role p = .cab →
      (1 < b.toNat → mode h .format) ∧
      (b = 0 → s.router.mode = .setup → mode h .already) ∧
      (b = 0 → s.router.mode ≠ .setup →
        let r := s.allot.record
        let record : Record := { r with
          mode := .setup, aCprot := 0, aCres := 0, aCfree := 0, aCh := 0, aTrLine := 0, aTrBat := 0, aRgLine := 0
          hLine := r.bLine - r.aEssLine, hBat := r.bBat - r.aEssBat, shortfall := 0
          aRgAux := r.aEssLine + r.aEssBat, aRg := min 800 (r.aRgBat + (r.aEssLine + r.aEssBat)) }
        let aux := s.aux.cutShed
        let cut : State :=
          { entered .setup with allot := { s.allot with record := record, cutMark := true }, aux := aux }
        let ordered := if aux.orders = s.aux.orders then cut else cut.notify (.auxOrders aux.orders)
        mode ((ordered.notify (.allotment record)).notify (.mode .setup (some s.router.mode) .request)) .ok) ∧
      (b = 1 → s.router.mode = .run → mode h .already) ∧
      (b = 1 → s.router.mode = .halt → mode h .modeRefused) ∧
      (b = 1 → s.router.mode = .setup →
        (s.store.save.isSome = true → mode h .busy) ∧
        (s.store.save = none → stopping → mode h .modeRefused) ∧
        (s.store.save = none → ¬stopping → s.findingsA ≠ [] → mode h .planInvalid) ∧
        (s.store.save = none → ¬stopping → s.findingsA = [] →
          mode ((entered .run).notify (.mode .run (some .setup) .request)) .ok)) ∧
      (2 < b.toNat → exec (.check p tag b) s = .next (h.answered p 0x2F tag .format)) ∧
      (b.toNat ≤ 2 → exec (.check p tag b) s = .next (h.answered p 0x2F tag .ok (.findings
        { countA := s.findingsA.length, countB := s.findingsB.length, countC := s.findingsC.length
          listed := (s.findingsA ++ (if b.toNat ≤ 1 then s.findingsB else []) ++
            (if b = 0 then s.findingsC else [])).take 16 }))))) ∧
  (∀ a : Sequencer,
    let b := a.cutShed
    let taken (r : AuxRecord) : Prop := r.config.tier = .comfort ∧ (r.state = .starting ∨ r.state = .running)
    b.shortfallCount = 0 ∧ b.settings = a.settings ∧ b.essentialShort = a.essentialShort ∧
      (∀ i : Slot, (a.table[i] = none → b.table[i] = none) ∧ ∀ r, a.table[i] = some r →
        ∃ q, b.table[i] = some q ∧ (¬taken r → q = { r with stamp := q.stamp }) ∧
          (taken r → q.stamp = none ∧ q.inrush = .stopped ∧ q.onTimer = .stopped ∧ q.runTimer = .stopped ∧
            (0 < r.config.tOffMin → q.state = .shed ∧ q.want = r.want ∧ q.config = r.config ∧
              q.offInhibit = .running (r.config.tOffMin * 1000)) ∧
            (r.config.tOffMin = 0 → q.offInhibit = .stopped ∧
              q.state = if r.want = true ∧ r.config.autoRestart = true then .queued else .idle))) ∧
      (∀ i : Slot, a.starting = some i → ∀ r, a.table[i] = some r →
        (taken r → b.starting = none) ∧ (¬taken r → b.starting = some i)) ∧
      (a.starting = none → b.starting = none)) ∧
  (∀ s : State,
    let l := s.allot.line
    let b := s.allot.battery
    let c := s.contact.settings
    let d := s.allot.demandSettings
    let essential := slots.filter fun i => (s.aux.table[i]).any fun r => r.config.tier == .essential
    let current := (essential.map fun i => ((s.aux.table[i]).map fun r => r.config.iRun).getD 0).sum
    let another (role : Role) (p : PortId) : Prop := s.role p = role ∧ ∃ q : PortId, q < p ∧ s.role q = role
    (∀ f : Finding, f ∈ s.findingsA ↔ f.cls = .a ∧
      (f.subject = none ∧
          ((f.code = 1 ∧ l.vKnee ≤ l.vFloor) ∨ (f.code = 2 ∧ b.vMax ≤ b.vOvk) ∨ (f.code = 3 ∧ b.vBatLow ≤ b.vBatMin) ∨
            (f.code = 4 ∧ b.vBatFull ≤ b.vChgTaper) ∨ (f.code = 5 ∧ c.elevMax ≤ c.elevMin) ∨
            (f.code = 6 ∧ l.vFloor ≤ c.vLoss) ∨ (f.code = 7 ∧ ∀ p, s.role p ≠ .cab) ∨
            (f.code = 10 ∧ ∀ p, s.role p ≠ .traction)) ∨
        ∃ p, f.subject = some p ∧
          ((f.code = 7 ∧ another .cab p) ∨ (f.code = 8 ∧ another .traction p) ∨ (f.code = 9 ∧ another .auxiliary p)))) ∧
    (∀ f : Finding, f ∈ s.findingsB ↔ f.cls = .b ∧ f.subject = none ∧
      ((f.code = 11 ∧ b.iBatMax < current) ∨ (f.code = 12 ∧ ∀ p, s.role p ≠ .roof) ∨
        (f.code = 13 ∧ d.cutoffFrames ≤ d.holdFrames) ∨ (f.code = 14 ∧ d.odStop ≤ d.odWarn))) ∧
    (∀ f : Finding, f ∈ s.findingsC ↔ f.cls = .c ∧ f.subject = none ∧
      ((f.code = 15 ∧ s.sections.table = []) ∨ (f.code = 16 ∧ s.alarm.policy = .off))) ∧
    (s.findingsA ++ s.findingsB ++ s.findingsC).Pairwise fun f g =>
      f.code < g.code ∨ (f.code = g.code ∧ ∃ p q, f.subject = some p ∧ g.subject = some q ∧ p < q))

/-- SAVE by its conditions in their order begins the rewrite with a snapshot of every setting as most recently
accepted, staged periods and written port settings among them, the configured parts in force and no pending part
(R163). RESET is refused in RUN; otherwise it is answered OK and changes nothing until its reply has gone, but that a
save in flight is abandoned at once with the image left corrupt (R163, R166). That the image state reads CORRUPT from
then on is the model's choice (log 31). The completion of a save: the image state is VALID where the image agrees with
the snapshot, which then stands in the memory with its checksum, and CORRUPT where it does not, the save is no longer
in flight, and a MODE notice with cause SAVE_DONE goes to every port (R162, R164). A completion of no save, an
abandoned one among them, does nothing (log 3). -/
def Obligations.SaveTakesAndJudgesItsSnapshot : Prop :=
  (∀ (p : PortId) (tag : Byte) (s : State), s.Hears p →
    let h := s.hunt p
    let save (u : State) (code : ReplyCode) : Prop := exec (.save p tag) s = .next (u.answered p 0x30 tag code)
    let reset (u : State) (code : ReplyCode) : Prop := exec (.reset p tag) s = .next (u.answered p 0x31 tag code)
    (s.role p ≠ .cab → save h .roleRefused ∧ reset h .roleRefused) ∧
    (s.role p = .cab →
      (s.router.mode ≠ .setup → save h .modeRefused) ∧
      (s.router.mode = .setup → s.store.save.isSome = true → save h .busy) ∧
      (s.router.mode = .setup → s.store.save = none → ∃ g : Image,
        save { h with store := { s.store with save := some ⟨g, 0⟩, imageState := .writing, nv := .torn } } .ok ∧
        (∀ q : PortId, g.ports[q] = (s.ports[q]).written) ∧ g.calib = s.meas.calib ∧
        g.sweepPeriod = s.meas.staged.getD s.meas.period ∧ g.contact = s.contact.settings ∧
        g.sections = s.sections.settings ∧ g.sectionTable = s.sections.table ∧
        g.line = { s.allot.line with tF := s.allot.stagedTf.getD s.allot.line.tF } ∧ g.battery = s.allot.battery ∧
        g.demand = s.allot.demandSettings ∧ g.aux = s.aux.settings ∧
        (∀ i : Slot, g.auxTable[i] = (s.aux.table[i]).map AuxRecord.config) ∧ g.routing = s.router.routing ∧
        g.policy = s.alarm.policy ∧ g.autoRun = s.store.autoRun) ∧
      (s.router.mode = .run → reset h .modeRefused) ∧
      (s.router.mode ≠ .run →
        (s.store.save = none → reset h .ok) ∧
        (s.store.save.isSome = true →
          reset { h with store := { s.store with save := none, imageState := .corrupt, nv := .torn } } .ok)))) ∧
  (∀ (agrees : Bool) (v : SaveInFlight) (s : State), s.up = true →
    (s.store.save = some v → exec (.saveCompletion agrees) s =
      .next ((({ s with store := { s.store with
        save := none
        nv := (if agrees then
            .written v.snapshot (BitVec.ofNat 16 ((Config.imageBytes v.snapshot).map BitVec.toNat).sum) else .torn)
        imageState := if agrees then .valid else .corrupt } } : State).queueTo (fun _ => true)
          (.mode s.router.mode none (.saveDone agrees))).beginWaiting)) ∧
    (s.store.save = none → exec (.saveCompletion agrees) s = .next s.beginWaiting))

/-- SET_ITEM on a numeric setting, by the table of R180 with the ranges of sections 2.6, 4.7, 5.6, 6.7, 7.5, 8.8 and
9.6, item by item with its number, its setting, its lowest and highest value and whether RUN admits it beside SETUP:
in a mode that permits it the value, brought to the nearer limit of its range, is the setting and what the item reads
as afterwards, every other numeric item stays and reads as before, and the reply says whether it was clamped; outside
that mode it is MODE_REFUSED (R180). SET_ITEM on the other items: the sweep and frame periods are staged (R6, R70);
boost, charge, auto-run and the port settings are stored, the latter as written settings alone (R170); a change of a
monitor's filter mode or decimation returns its counts to 0 and keeps its state (R21), and writing the value it has
changes nothing (log 17); disabling a monitor puts it in DISABLED with its counts at 0 and enabling it in SETTLING
(R19); a value that names none of an item's states is FORMAT; numbers of no item or of a read-only one are NO_SUCH,
and an item in a mode not named for it MODE_REFUSED (R180). -/
def Obligations.SetItemStoresAndStages : Prop :=
  (let row : NumericItem → Nat × Nat × Nat × Bool
    | .offset c => (1 + c.val, 0, 4095, false) | .gain c => (9 + c.val, 1, 65535, false)
    | .vLoss => (20, 100, 500, false) | .hLoss => (21, 0, 100, false) | .vOv => (22, 700, 1000, false)
    | .hOv => (23, 0, 100, false) | .latLimit => (24, 100, 550, false) | .elevMin => (25, 50, 400, false)
    | .elevMax => (26, 300, 850, false) | .hAng => (27, 0, 100, false) | .stowLevel => (40, 0, 100, false)
    | .seatTime => (41, 50, 2000, false) | .gapMax => (42, 100, 5000, false)
    | .lowerTimeMax => (43, 1000, 20000, false) | .iFeedDefault => (48, 0, 1000, true)
    | .iRgmaxDefault => (49, 0, 800, true) | .expectWindow => (50, 500, 10000, false)
    | .vFloor => (57, 200, 700, false) | .vKnee => (58, 300, 900, false) | .sUp => (59, 1, 800, true)
    | .rCom => (60, 0, 200, true) | .tRc => (61, 0, 500, true) | .vBatMin => (64, 300, 800, false)
    | .vBatLow => (65, 300, 800, false) | .iBatMax => (66, 0, 400, true) | .iBatChg => (67, 0, 400, true)
    | .vChgTaper => (68, 300, 900, false) | .vBatFull => (69, 300, 900, false) | .vOvk => (70, 600, 990, false)
    | .vMax => (71, 650, 1000, false) | .holdFrames => (80, 1, 50, true) | .staleDecay => (81, 1, 800, true)
    | .cutoffFrames => (82, 2, 500, true) | .tol => (83, 0, 200, true) | .odWarn => (84, 1, 50, true)
    | .odStop => (85, 2, 500, true) | .startWaitMax => (88, 1000, 60000, true) | .shedFrames => (89, 1, 20, true)
  let setting (s : State) : NumericItem → Nat
    | .offset c => (s.meas.calib[c]).offset | .gain c => (s.meas.calib[c]).gain | .vLoss => s.contact.settings.vLoss
    | .hLoss => s.contact.settings.hLoss | .vOv => s.contact.settings.vOv | .hOv => s.contact.settings.hOv
    | .latLimit => s.contact.settings.latLimit | .elevMin => s.contact.settings.elevMin
    | .elevMax => s.contact.settings.elevMax | .hAng => s.contact.settings.hAng
    | .stowLevel => s.contact.settings.stowLevel | .seatTime => s.contact.settings.seatTime
    | .gapMax => s.contact.settings.gapMax | .lowerTimeMax => s.contact.settings.lowerTimeMax
    | .iFeedDefault => s.sections.settings.iFeedDefault | .iRgmaxDefault => s.sections.settings.iRgmaxDefault
    | .expectWindow => s.sections.settings.expectWindow | .vFloor => s.allot.line.vFloor
    | .vKnee => s.allot.line.vKnee | .sUp => s.allot.line.sUp | .rCom => s.allot.line.rCom | .tRc => s.allot.line.tRc
    | .vBatMin => s.allot.battery.vBatMin | .vBatLow => s.allot.battery.vBatLow | .iBatMax => s.allot.battery.iBatMax
    | .iBatChg => s.allot.battery.iBatChg | .vChgTaper => s.allot.battery.vChgTaper
    | .vBatFull => s.allot.battery.vBatFull | .vOvk => s.allot.battery.vOvk | .vMax => s.allot.battery.vMax
    | .holdFrames => s.allot.demandSettings.holdFrames | .staleDecay => s.allot.demandSettings.staleDecay
    | .cutoffFrames => s.allot.demandSettings.cutoffFrames | .tol => s.allot.demandSettings.tol
    | .odWarn => s.allot.demandSettings.odWarn | .odStop => s.allot.demandSettings.odStop
    | .startWaitMax => s.aux.settings.startWaitMax | .shedFrames => s.aux.settings.shedFrames
  (∀ (k : Nat) (n : NumericItem), Item.ofNumber k = some (.numeric n) ↔ k = (row n).1) ∧
  (∀ (p : PortId) (tag : Byte) (item value : Half) (s : State) (n : NumericItem) (lo hi : Nat) (run : Bool), s.Hears p →
    row n = (item.toNat, lo, hi, run) →
      let h := s.hunt p
      let x := max lo (min value.toNat hi)
      let allowed := s.router.mode = .setup ∨ (s.router.mode = .run ∧ run = true)
      (s.role p ≠ .cab → exec (.setItem p tag item value) s = .next (h.answered p 0x20 tag .roleRefused)) ∧
      (s.role p = .cab → ¬allowed →
        exec (.setItem p tag item value) s = .next (h.answered p 0x20 tag .modeRefused)) ∧
      (s.role p = .cab → allowed → ∃ u : State,
        exec (.setItem p tag item value) s =
          .next (u.answered p 0x20 tag (if x = value.toNat then .ok else .clamped)) ∧
        setting u n = x ∧ (∀ m, m ≠ n → setting u m = setting s m) ∧
        n.ofImage u.settingsImage = x ∧ (∀ m, m ≠ n → m.ofImage u.settingsImage = m.ofImage s.settingsImage) ∧
        u.store = s.store ∧ u.router = s.router ∧ u.alarm = s.alarm ∧ u.contact.poles = s.contact.poles ∧
        u.contact.monitors = s.contact.monitors ∧ u.aux.table = s.aux.table ∧ u.sections.table = s.sections.table ∧
        u.sections.current = s.sections.current ∧
        (n ≠ .iFeedDefault → n ≠ .iRgmaxDefault → n ≠ .iBatMax → u.allot.record = s.allot.record) ∧
        (n = .iBatMax → u.allot.record.bBat = min s.allot.record.bBat x) ∧
        (n = .iFeedDefault → s.sections.current = none → u.allot.record.bLine = min s.allot.record.bLine x)))) ∧
  (∀ (p : PortId) (tag : Byte) (item value : Half) (s : State), s.Hears p → s.role p = .cab →
    let h := s.hunt p
    let v := value.toNat
    let reply (u : State) (code : ReplyCode) : Prop :=
      exec (.setItem p tag item value) s = .next (u.answered p 0x20 tag code)
    let place : MonitorId → Nat
      | .loss => 0 | .anglePos => 1 | .angleNeg => 2 | .overvolt => 3
    let write (q : PortId) (w : PortSettings) : State := h.setPort q { h.ports[q] with written := w }
    let set := s.contact.settings.monitors
    (Item.ofNumber item.toNat = none → reply h .noSuch) ∧
    (120 ≤ item.toNat → reply h .noSuch) ∧
    (s.router.mode = .halt → ∀ i, Item.ofNumber item.toNat = some i → item.toNat < 120 → reply h .modeRefused) ∧
    (s.router.mode = .setup →
      (item = 17 → reply { h with meas := { s.meas with staged := some (max 1 (min v 8)) } }
        (if 1 ≤ v ∧ v ≤ 8 then .ok else .clamped)) ∧
      (item = 56 → reply { h with allot := { s.allot with stagedTf := some (max 5 (min v 50)) } }
        (if 5 ≤ v ∧ v ≤ 50 then .ok else .clamped)) ∧
      (item = 96 → v ≤ 1 → reply { h with store := { s.store with autoRun := decide (v = 1) } } .ok) ∧
      (item = 96 → 1 < v → reply h .format) ∧
      (∀ q : PortId,
        let w := (s.ports[q]).written
        (∀ x : Rate, item.toNat = 100 + q.val →
          v = (match x with | .b19200 => 0 | .b57600 => 1 | .b115200 => 2 | .b230400 => 3) →
            reply (write q { w with rate := x }) .ok) ∧
        (∀ x : Parity, item.toNat = 104 + q.val → v = (match x with | .none => 0 | .even => 1 | .odd => 2) →
          reply (write q { w with parity := x }) .ok) ∧
        (∀ x : Polarity, item.toNat = 108 + q.val → v = (match x with | .normal => 0 | .inverted => 1) →
          reply (write q { w with polarity := x }) .ok) ∧
        (∀ x : Duplex, item.toNat = 112 + q.val → v = (match x with | .full => 0 | .half => 1) →
          reply (write q { w with duplex := x }) .ok) ∧
        (∀ x : Role, item.toNat = 116 + q.val →
          v = (match x with | .cab => 0 | .traction => 1 | .auxiliary => 2 | .roof => 3 | .monitor => 4) →
            reply (write q { w with role := x }) .ok) ∧
        (item.toNat = 100 + q.val → 3 < v → reply h .format) ∧
        (item.toNat = 104 + q.val → 2 < v → reply h .format) ∧
        (item.toNat = 108 + q.val → 1 < v → reply h .format) ∧
        (item.toNat = 112 + q.val → 1 < v → reply h .format) ∧
        (item.toNat = 116 + q.val → 4 < v → reply h .format)) ∧
      (∀ m : MonitorId,
        let c := set.get m
        let k := s.contact.monitors.get m
        let change (c' : MonitorSetting) : State := { h with contact := { s.contact with
          monitors := s.contact.monitors.set m { k with filter := 0, decimation := 0 }
          settings := { s.contact.settings with monitors := set.set m c' } } }
        (item.toNat = 28 + place m →
          (1 < v → reply h .format) ∧
          (v ≤ 1 → c.enable = decide (v = 1) → reply h .ok) ∧
          (v ≤ 1 → c.enable ≠ decide (v = 1) → ∃ u : State, reply u .ok ∧
            u.contact.monitors = s.contact.monitors.set m
              { k with state := if v = 1 then .settling else .disabled, settling := 0, filter := 0, decimation := 0 } ∧
            u.contact.settings = { s.contact.settings with
              monitors := set.set m { c with enable := decide (v = 1) } } ∧
            u.contact.contact = u.contact.derive ∧ u.meas = s.meas ∧ u.store = s.store)) ∧
        (item.toNat = 32 + place m →
          (1 < v → reply h .format) ∧
          (∀ x : FilterMode, v = (match x with | .filtered => 0 | .direct => 1) →
            reply (if c.mode = x then h else change { c with mode := x }) .ok)) ∧
        (item.toNat = 36 + place m →
          let d := if 8 ≤ v then 8 else if 4 ≤ v then 4 else if 2 ≤ v then 2 else 1
          reply (if c.decimation = d then h else change { c with decimation := d })
            (if d = v then .ok else .clamped)))) ∧
    ((s.router.mode = .setup ∨ s.router.mode = .run) →
      (item = 72 → v ≤ 1 → reply { h with allot := { s.allot with
        battery := { s.allot.battery with boost := decide (v = 1) } } } .ok) ∧
      (item = 73 → v ≤ 1 → reply { h with allot := { s.allot with
        battery := { s.allot.battery with charge := decide (v = 1) } } } .ok) ∧
      (item = 72 ∨ item = 73 → 1 < v → reply h .format)) ∧
    (s.router.mode = .run → item = 17 ∨ (28 ≤ item.toNat ∧ item.toNat ≤ 39) ∨ item = 56 ∨ item = 96 ∨
        (100 ≤ item.toNat ∧ item.toNat ≤ 119) → reply h .modeRefused))
end

