-- ==== Sys2Proof/Laws/State.lean ====
section
/-! SUPPORT. One lemma per field of the state for each update of a block: what the update leaves as it was, true by
unfolding. -/
namespace Sys2Proof.Machine

variable (s : State)

@[simp] theorem State.mapPorts_meas (f : PortId → Port → Port) : (s.mapPorts f).meas = s.meas := rfl
@[simp] theorem State.mapPorts_contact (f : PortId → Port → Port) : (s.mapPorts f).contact = s.contact := rfl
@[simp] theorem State.mapPorts_alarm (f : PortId → Port → Port) : (s.mapPorts f).alarm = s.alarm := rfl
@[simp] theorem State.mapPorts_sections (f : PortId → Port → Port) : (s.mapPorts f).sections = s.sections := rfl
@[simp] theorem State.mapPorts_allot (f : PortId → Port → Port) : (s.mapPorts f).allot = s.allot := rfl
@[simp] theorem State.mapPorts_aux (f : PortId → Port → Port) : (s.mapPorts f).aux = s.aux := rfl
@[simp] theorem State.mapPorts_router (f : PortId → Port → Port) : (s.mapPorts f).router = s.router := rfl
@[simp] theorem State.mapPorts_store (f : PortId → Port → Port) : (s.mapPorts f).store = s.store := rfl
@[simp] theorem State.mapPorts_power (f : PortId → Port → Port) : (s.mapPorts f).power = s.power := rfl
@[simp] theorem State.mapPorts_pending (f : PortId → Port → Port) : (s.mapPorts f).pending = s.pending := rfl

@[simp] theorem State.setPort_meas (p : PortId) (port : Port) : (s.setPort p port).meas = s.meas := rfl
@[simp] theorem State.setPort_contact (p : PortId) (port : Port) : (s.setPort p port).contact = s.contact := rfl
@[simp] theorem State.setPort_alarm (p : PortId) (port : Port) : (s.setPort p port).alarm = s.alarm := rfl
@[simp] theorem State.setPort_sections (p : PortId) (port : Port) : (s.setPort p port).sections = s.sections := rfl
@[simp] theorem State.setPort_allot (p : PortId) (port : Port) : (s.setPort p port).allot = s.allot := rfl
@[simp] theorem State.setPort_aux (p : PortId) (port : Port) : (s.setPort p port).aux = s.aux := rfl
@[simp] theorem State.setPort_router (p : PortId) (port : Port) : (s.setPort p port).router = s.router := rfl
@[simp] theorem State.setPort_store (p : PortId) (port : Port) : (s.setPort p port).store = s.store := rfl
@[simp] theorem State.setPort_power (p : PortId) (port : Port) : (s.setPort p port).power = s.power := rfl
@[simp] theorem State.setPort_pending (p : PortId) (port : Port) : (s.setPort p port).pending = s.pending := rfl

@[simp] theorem State.queueTo_meas (dest : PortId → Bool) (n : Notice) : (s.queueTo dest n).meas = s.meas := rfl
@[simp] theorem State.queueTo_contact (dest : PortId → Bool) (n : Notice) : (s.queueTo dest n).contact = s.contact := rfl
@[simp] theorem State.queueTo_alarm (dest : PortId → Bool) (n : Notice) : (s.queueTo dest n).alarm = s.alarm := rfl
@[simp] theorem State.queueTo_sections (dest : PortId → Bool) (n : Notice) : (s.queueTo dest n).sections = s.sections := rfl
@[simp] theorem State.queueTo_allot (dest : PortId → Bool) (n : Notice) : (s.queueTo dest n).allot = s.allot := rfl
@[simp] theorem State.queueTo_aux (dest : PortId → Bool) (n : Notice) : (s.queueTo dest n).aux = s.aux := rfl
@[simp] theorem State.queueTo_router (dest : PortId → Bool) (n : Notice) : (s.queueTo dest n).router = s.router := rfl
@[simp] theorem State.queueTo_store (dest : PortId → Bool) (n : Notice) : (s.queueTo dest n).store = s.store := rfl
@[simp] theorem State.queueTo_power (dest : PortId → Bool) (n : Notice) : (s.queueTo dest n).power = s.power := rfl
@[simp] theorem State.queueTo_pending (dest : PortId → Bool) (n : Notice) : (s.queueTo dest n).pending = s.pending := rfl

@[simp] theorem State.notify_meas (n : Notice) : (s.notify n).meas = s.meas := rfl
@[simp] theorem State.notify_contact (n : Notice) : (s.notify n).contact = s.contact := rfl
@[simp] theorem State.notify_alarm (n : Notice) : (s.notify n).alarm = s.alarm := rfl
@[simp] theorem State.notify_sections (n : Notice) : (s.notify n).sections = s.sections := rfl
@[simp] theorem State.notify_allot (n : Notice) : (s.notify n).allot = s.allot := rfl
@[simp] theorem State.notify_aux (n : Notice) : (s.notify n).aux = s.aux := rfl
@[simp] theorem State.notify_router (n : Notice) : (s.notify n).router = s.router := rfl
@[simp] theorem State.notify_store (n : Notice) : (s.notify n).store = s.store := rfl
@[simp] theorem State.notify_power (n : Notice) : (s.notify n).power = s.power := rfl
@[simp] theorem State.notify_pending (n : Notice) : (s.notify n).pending = s.pending := rfl

@[simp] theorem State.withdrawRaise_meas  : (s.withdrawRaise).meas = s.meas := rfl
@[simp] theorem State.withdrawRaise_contact  : (s.withdrawRaise).contact = s.contact := rfl
@[simp] theorem State.withdrawRaise_alarm  : (s.withdrawRaise).alarm = s.alarm := rfl
@[simp] theorem State.withdrawRaise_sections  : (s.withdrawRaise).sections = s.sections := rfl
@[simp] theorem State.withdrawRaise_allot  : (s.withdrawRaise).allot = s.allot := rfl
@[simp] theorem State.withdrawRaise_aux  : (s.withdrawRaise).aux = s.aux := rfl
@[simp] theorem State.withdrawRaise_router  : (s.withdrawRaise).router = s.router := rfl
@[simp] theorem State.withdrawRaise_store  : (s.withdrawRaise).store = s.store := rfl
@[simp] theorem State.withdrawRaise_power  : (s.withdrawRaise).power = s.power := rfl
@[simp] theorem State.withdrawRaise_pending  : (s.withdrawRaise).pending = s.pending := rfl

@[simp] theorem State.beginWaiting_meas  : (s.beginWaiting).meas = s.meas := rfl
@[simp] theorem State.beginWaiting_contact  : (s.beginWaiting).contact = s.contact := rfl
@[simp] theorem State.beginWaiting_alarm  : (s.beginWaiting).alarm = s.alarm := rfl
@[simp] theorem State.beginWaiting_sections  : (s.beginWaiting).sections = s.sections := rfl
@[simp] theorem State.beginWaiting_allot  : (s.beginWaiting).allot = s.allot := rfl
@[simp] theorem State.beginWaiting_aux  : (s.beginWaiting).aux = s.aux := rfl
@[simp] theorem State.beginWaiting_router  : (s.beginWaiting).router = s.router := rfl
@[simp] theorem State.beginWaiting_store  : (s.beginWaiting).store = s.store := rfl
@[simp] theorem State.beginWaiting_power  : (s.beginWaiting).power = s.power := rfl
@[simp] theorem State.beginWaiting_pending  : (s.beginWaiting).pending = s.pending := rfl

@[simp] theorem State.enterReply_meas (p : PortId) (r : Reply) : (s.enterReply p r).meas = s.meas := rfl
@[simp] theorem State.enterReply_contact (p : PortId) (r : Reply) : (s.enterReply p r).contact = s.contact := rfl
@[simp] theorem State.enterReply_alarm (p : PortId) (r : Reply) : (s.enterReply p r).alarm = s.alarm := rfl
@[simp] theorem State.enterReply_sections (p : PortId) (r : Reply) : (s.enterReply p r).sections = s.sections := rfl
@[simp] theorem State.enterReply_allot (p : PortId) (r : Reply) : (s.enterReply p r).allot = s.allot := rfl
@[simp] theorem State.enterReply_aux (p : PortId) (r : Reply) : (s.enterReply p r).aux = s.aux := rfl
@[simp] theorem State.enterReply_router (p : PortId) (r : Reply) : (s.enterReply p r).router = s.router := rfl
@[simp] theorem State.enterReply_store (p : PortId) (r : Reply) : (s.enterReply p r).store = s.store := rfl
@[simp] theorem State.enterReply_power (p : PortId) (r : Reply) : (s.enterReply p r).power = s.power := rfl
@[simp] theorem State.enterReply_pending (p : PortId) (r : Reply) : (s.enterReply p r).pending = s.pending := rfl

@[simp] theorem State.hunt_meas (p : PortId) : (s.hunt p).meas = s.meas := rfl
@[simp] theorem State.hunt_contact (p : PortId) : (s.hunt p).contact = s.contact := rfl
@[simp] theorem State.hunt_alarm (p : PortId) : (s.hunt p).alarm = s.alarm := rfl
@[simp] theorem State.hunt_sections (p : PortId) : (s.hunt p).sections = s.sections := rfl
@[simp] theorem State.hunt_allot (p : PortId) : (s.hunt p).allot = s.allot := rfl
@[simp] theorem State.hunt_aux (p : PortId) : (s.hunt p).aux = s.aux := rfl
@[simp] theorem State.hunt_router (p : PortId) : (s.hunt p).router = s.router := rfl
@[simp] theorem State.hunt_store (p : PortId) : (s.hunt p).store = s.store := rfl
@[simp] theorem State.hunt_power (p : PortId) : (s.hunt p).power = s.power := rfl
@[simp] theorem State.hunt_pending (p : PortId) : (s.hunt p).pending = s.pending := rfl

@[simp] theorem State.countOverrun_meas (p : PortId) : (s.countOverrun p).meas = s.meas := rfl
@[simp] theorem State.countOverrun_contact (p : PortId) : (s.countOverrun p).contact = s.contact := rfl
@[simp] theorem State.countOverrun_alarm (p : PortId) : (s.countOverrun p).alarm = s.alarm := rfl
@[simp] theorem State.countOverrun_sections (p : PortId) : (s.countOverrun p).sections = s.sections := rfl
@[simp] theorem State.countOverrun_allot (p : PortId) : (s.countOverrun p).allot = s.allot := rfl
@[simp] theorem State.countOverrun_aux (p : PortId) : (s.countOverrun p).aux = s.aux := rfl
@[simp] theorem State.countOverrun_router (p : PortId) : (s.countOverrun p).router = s.router := rfl
@[simp] theorem State.countOverrun_store (p : PortId) : (s.countOverrun p).store = s.store := rfl
@[simp] theorem State.countOverrun_power (p : PortId) : (s.countOverrun p).power = s.power := rfl
@[simp] theorem State.countOverrun_pending (p : PortId) : (s.countOverrun p).pending = s.pending := rfl

@[simp] theorem State.failFrame_meas (p : PortId) (f : PortCounts → PortCounts) : (s.failFrame p f).meas = s.meas := rfl
@[simp] theorem State.failFrame_contact (p : PortId) (f : PortCounts → PortCounts) : (s.failFrame p f).contact = s.contact := rfl
@[simp] theorem State.failFrame_alarm (p : PortId) (f : PortCounts → PortCounts) : (s.failFrame p f).alarm = s.alarm := rfl
@[simp] theorem State.failFrame_sections (p : PortId) (f : PortCounts → PortCounts) : (s.failFrame p f).sections = s.sections := rfl
@[simp] theorem State.failFrame_allot (p : PortId) (f : PortCounts → PortCounts) : (s.failFrame p f).allot = s.allot := rfl
@[simp] theorem State.failFrame_aux (p : PortId) (f : PortCounts → PortCounts) : (s.failFrame p f).aux = s.aux := rfl
@[simp] theorem State.failFrame_router (p : PortId) (f : PortCounts → PortCounts) : (s.failFrame p f).router = s.router := rfl
@[simp] theorem State.failFrame_store (p : PortId) (f : PortCounts → PortCounts) : (s.failFrame p f).store = s.store := rfl
@[simp] theorem State.failFrame_power (p : PortId) (f : PortCounts → PortCounts) : (s.failFrame p f).power = s.power := rfl
@[simp] theorem State.failFrame_pending (p : PortId) (f : PortCounts → PortCounts) : (s.failFrame p f).pending = s.pending := rfl

@[simp] theorem State.receiving_meas (p : PortId) (l : Option Nat) (b : List Byte) : (s.receiving p l b).meas = s.meas := rfl
@[simp] theorem State.receiving_contact (p : PortId) (l : Option Nat) (b : List Byte) : (s.receiving p l b).contact = s.contact := rfl
@[simp] theorem State.receiving_alarm (p : PortId) (l : Option Nat) (b : List Byte) : (s.receiving p l b).alarm = s.alarm := rfl
@[simp] theorem State.receiving_sections (p : PortId) (l : Option Nat) (b : List Byte) : (s.receiving p l b).sections = s.sections := rfl
@[simp] theorem State.receiving_allot (p : PortId) (l : Option Nat) (b : List Byte) : (s.receiving p l b).allot = s.allot := rfl
@[simp] theorem State.receiving_aux (p : PortId) (l : Option Nat) (b : List Byte) : (s.receiving p l b).aux = s.aux := rfl
@[simp] theorem State.receiving_router (p : PortId) (l : Option Nat) (b : List Byte) : (s.receiving p l b).router = s.router := rfl
@[simp] theorem State.receiving_store (p : PortId) (l : Option Nat) (b : List Byte) : (s.receiving p l b).store = s.store := rfl
@[simp] theorem State.receiving_power (p : PortId) (l : Option Nat) (b : List Byte) : (s.receiving p l b).power = s.power := rfl
@[simp] theorem State.receiving_pending (p : PortId) (l : Option Nat) (b : List Byte) : (s.receiving p l b).pending = s.pending := rfl

@[simp] theorem State.setWritten_meas (p : PortId) (f : PortSettings → PortSettings) : (s.setWritten p f).meas = s.meas := rfl
@[simp] theorem State.setWritten_contact (p : PortId) (f : PortSettings → PortSettings) : (s.setWritten p f).contact = s.contact := rfl
@[simp] theorem State.setWritten_alarm (p : PortId) (f : PortSettings → PortSettings) : (s.setWritten p f).alarm = s.alarm := rfl
@[simp] theorem State.setWritten_sections (p : PortId) (f : PortSettings → PortSettings) : (s.setWritten p f).sections = s.sections := rfl
@[simp] theorem State.setWritten_allot (p : PortId) (f : PortSettings → PortSettings) : (s.setWritten p f).allot = s.allot := rfl
@[simp] theorem State.setWritten_aux (p : PortId) (f : PortSettings → PortSettings) : (s.setWritten p f).aux = s.aux := rfl
@[simp] theorem State.setWritten_router (p : PortId) (f : PortSettings → PortSettings) : (s.setWritten p f).router = s.router := rfl
@[simp] theorem State.setWritten_store (p : PortId) (f : PortSettings → PortSettings) : (s.setWritten p f).store = s.store := rfl
@[simp] theorem State.setWritten_power (p : PortId) (f : PortSettings → PortSettings) : (s.setWritten p f).power = s.power := rfl
@[simp] theorem State.setWritten_pending (p : PortId) (f : PortSettings → PortSettings) : (s.setWritten p f).pending = s.pending := rfl

@[simp] theorem State.setRecord_meas (r : Record) : (s.setRecord r).meas = s.meas := rfl
@[simp] theorem State.setRecord_contact (r : Record) : (s.setRecord r).contact = s.contact := rfl
@[simp] theorem State.setRecord_alarm (r : Record) : (s.setRecord r).alarm = s.alarm := rfl
@[simp] theorem State.setRecord_sections (r : Record) : (s.setRecord r).sections = s.sections := rfl
@[simp] theorem State.setRecord_aux (r : Record) : (s.setRecord r).aux = s.aux := rfl
@[simp] theorem State.setRecord_router (r : Record) : (s.setRecord r).router = s.router := rfl
@[simp] theorem State.setRecord_store (r : Record) : (s.setRecord r).store = s.store := rfl
@[simp] theorem State.setRecord_ports (r : Record) : (s.setRecord r).ports = s.ports := rfl
@[simp] theorem State.setRecord_power (r : Record) : (s.setRecord r).power = s.power := rfl
@[simp] theorem State.setRecord_pending (r : Record) : (s.setRecord r).pending = s.pending := rfl

@[simp] theorem State.markCut_meas  : (s.markCut).meas = s.meas := rfl
@[simp] theorem State.markCut_contact  : (s.markCut).contact = s.contact := rfl
@[simp] theorem State.markCut_alarm  : (s.markCut).alarm = s.alarm := rfl
@[simp] theorem State.markCut_sections  : (s.markCut).sections = s.sections := rfl
@[simp] theorem State.markCut_aux  : (s.markCut).aux = s.aux := rfl
@[simp] theorem State.markCut_router  : (s.markCut).router = s.router := rfl
@[simp] theorem State.markCut_store  : (s.markCut).store = s.store := rfl
@[simp] theorem State.markCut_ports  : (s.markCut).ports = s.ports := rfl
@[simp] theorem State.markCut_power  : (s.markCut).power = s.power := rfl
@[simp] theorem State.markCut_pending  : (s.markCut).pending = s.pending := rfl

@[simp] theorem State.publish_meas  : (s.publish).meas = s.meas := rfl
@[simp] theorem State.publish_contact  : (s.publish).contact = s.contact := rfl
@[simp] theorem State.publish_alarm  : (s.publish).alarm = s.alarm := rfl
@[simp] theorem State.publish_sections  : (s.publish).sections = s.sections := rfl
@[simp] theorem State.publish_allot  : (s.publish).allot = s.allot := rfl
@[simp] theorem State.publish_aux  : (s.publish).aux = s.aux := rfl
@[simp] theorem State.publish_router  : (s.publish).router = s.router := rfl
@[simp] theorem State.publish_store  : (s.publish).store = s.store := rfl
@[simp] theorem State.publish_power  : (s.publish).power = s.power := rfl
@[simp] theorem State.publish_pending  : (s.publish).pending = s.pending := rfl

@[simp] theorem State.placeSection_meas (c : Option Nat) : (s.placeSection c).meas = s.meas := rfl
@[simp] theorem State.placeSection_contact (c : Option Nat) : (s.placeSection c).contact = s.contact := rfl
@[simp] theorem State.placeSection_alarm (c : Option Nat) : (s.placeSection c).alarm = s.alarm := rfl
@[simp] theorem State.placeSection_allot (c : Option Nat) : (s.placeSection c).allot = s.allot := rfl
@[simp] theorem State.placeSection_aux (c : Option Nat) : (s.placeSection c).aux = s.aux := rfl
@[simp] theorem State.placeSection_router (c : Option Nat) : (s.placeSection c).router = s.router := rfl
@[simp] theorem State.placeSection_store (c : Option Nat) : (s.placeSection c).store = s.store := rfl
@[simp] theorem State.placeSection_ports (c : Option Nat) : (s.placeSection c).ports = s.ports := rfl
@[simp] theorem State.placeSection_power (c : Option Nat) : (s.placeSection c).power = s.power := rfl
@[simp] theorem State.placeSection_pending (c : Option Nat) : (s.placeSection c).pending = s.pending := rfl

@[simp] theorem State.sectionDrop_meas  : (s.sectionDrop).meas = s.meas := rfl
@[simp] theorem State.sectionDrop_contact  : (s.sectionDrop).contact = s.contact := rfl
@[simp] theorem State.sectionDrop_alarm  : (s.sectionDrop).alarm = s.alarm := rfl
@[simp] theorem State.sectionDrop_allot  : (s.sectionDrop).allot = s.allot := rfl
@[simp] theorem State.sectionDrop_aux  : (s.sectionDrop).aux = s.aux := rfl
@[simp] theorem State.sectionDrop_router  : (s.sectionDrop).router = s.router := rfl
@[simp] theorem State.sectionDrop_store  : (s.sectionDrop).store = s.store := rfl
@[simp] theorem State.sectionDrop_ports  : (s.sectionDrop).ports = s.ports := rfl
@[simp] theorem State.sectionDrop_power  : (s.sectionDrop).power = s.power := rfl
@[simp] theorem State.sectionDrop_pending  : (s.sectionDrop).pending = s.pending := rfl

@[simp] theorem State.changeAlarms_meas (u : AlarmUnit) : (s.changeAlarms u).meas = s.meas := rfl
@[simp] theorem State.changeAlarms_contact (u : AlarmUnit) : (s.changeAlarms u).contact = s.contact := rfl
@[simp] theorem State.changeAlarms_sections (u : AlarmUnit) : (s.changeAlarms u).sections = s.sections := rfl
@[simp] theorem State.changeAlarms_allot (u : AlarmUnit) : (s.changeAlarms u).allot = s.allot := rfl
@[simp] theorem State.changeAlarms_aux (u : AlarmUnit) : (s.changeAlarms u).aux = s.aux := rfl
@[simp] theorem State.changeAlarms_router (u : AlarmUnit) : (s.changeAlarms u).router = s.router := rfl
@[simp] theorem State.changeAlarms_store (u : AlarmUnit) : (s.changeAlarms u).store = s.store := rfl
@[simp] theorem State.changeAlarms_power (u : AlarmUnit) : (s.changeAlarms u).power = s.power := rfl
@[simp] theorem State.changeAlarms_pending (u : AlarmUnit) : (s.changeAlarms u).pending = s.pending := rfl

@[simp] theorem State.settleContact_meas  : (s.settleContact).meas = s.meas := rfl
@[simp] theorem State.settleContact_alarm  : (s.settleContact).alarm = s.alarm := rfl
@[simp] theorem State.settleContact_sections  : (s.settleContact).sections = s.sections := rfl
@[simp] theorem State.settleContact_allot  : (s.settleContact).allot = s.allot := rfl
@[simp] theorem State.settleContact_aux  : (s.settleContact).aux = s.aux := rfl
@[simp] theorem State.settleContact_router  : (s.settleContact).router = s.router := rfl
@[simp] theorem State.settleContact_store  : (s.settleContact).store = s.store := rfl
@[simp] theorem State.settleContact_ports  : (s.settleContact).ports = s.ports := rfl
@[simp] theorem State.settleContact_power  : (s.settleContact).power = s.power := rfl
@[simp] theorem State.settleContact_pending  : (s.settleContact).pending = s.pending := rfl

@[simp] theorem State.setContactSettings_meas (f : ContactSettings → ContactSettings) : (s.setContactSettings f).meas = s.meas := rfl
@[simp] theorem State.setContactSettings_alarm (f : ContactSettings → ContactSettings) : (s.setContactSettings f).alarm = s.alarm := rfl
@[simp] theorem State.setContactSettings_sections (f : ContactSettings → ContactSettings) : (s.setContactSettings f).sections = s.sections := rfl
@[simp] theorem State.setContactSettings_allot (f : ContactSettings → ContactSettings) : (s.setContactSettings f).allot = s.allot := rfl
@[simp] theorem State.setContactSettings_aux (f : ContactSettings → ContactSettings) : (s.setContactSettings f).aux = s.aux := rfl
@[simp] theorem State.setContactSettings_router (f : ContactSettings → ContactSettings) : (s.setContactSettings f).router = s.router := rfl
@[simp] theorem State.setContactSettings_store (f : ContactSettings → ContactSettings) : (s.setContactSettings f).store = s.store := rfl
@[simp] theorem State.setContactSettings_ports (f : ContactSettings → ContactSettings) : (s.setContactSettings f).ports = s.ports := rfl
@[simp] theorem State.setContactSettings_power (f : ContactSettings → ContactSettings) : (s.setContactSettings f).power = s.power := rfl
@[simp] theorem State.setContactSettings_pending (f : ContactSettings → ContactSettings) : (s.setContactSettings f).pending = s.pending := rfl

@[simp] theorem State.setMonitor_meas (m : MonitorId) (f : Monitor → Monitor) (g : MonitorSetting → MonitorSetting) : (s.setMonitor m f g).meas = s.meas := rfl
@[simp] theorem State.setMonitor_alarm (m : MonitorId) (f : Monitor → Monitor) (g : MonitorSetting → MonitorSetting) : (s.setMonitor m f g).alarm = s.alarm := rfl
@[simp] theorem State.setMonitor_sections (m : MonitorId) (f : Monitor → Monitor) (g : MonitorSetting → MonitorSetting) : (s.setMonitor m f g).sections = s.sections := rfl
@[simp] theorem State.setMonitor_allot (m : MonitorId) (f : Monitor → Monitor) (g : MonitorSetting → MonitorSetting) : (s.setMonitor m f g).allot = s.allot := rfl
@[simp] theorem State.setMonitor_aux (m : MonitorId) (f : Monitor → Monitor) (g : MonitorSetting → MonitorSetting) : (s.setMonitor m f g).aux = s.aux := rfl
@[simp] theorem State.setMonitor_router (m : MonitorId) (f : Monitor → Monitor) (g : MonitorSetting → MonitorSetting) : (s.setMonitor m f g).router = s.router := rfl
@[simp] theorem State.setMonitor_store (m : MonitorId) (f : Monitor → Monitor) (g : MonitorSetting → MonitorSetting) : (s.setMonitor m f g).store = s.store := rfl
@[simp] theorem State.setMonitor_ports (m : MonitorId) (f : Monitor → Monitor) (g : MonitorSetting → MonitorSetting) : (s.setMonitor m f g).ports = s.ports := rfl
@[simp] theorem State.setMonitor_power (m : MonitorId) (f : Monitor → Monitor) (g : MonitorSetting → MonitorSetting) : (s.setMonitor m f g).power = s.power := rfl
@[simp] theorem State.setMonitor_pending (m : MonitorId) (f : Monitor → Monitor) (g : MonitorSetting → MonitorSetting) : (s.setMonitor m f g).pending = s.pending := rfl

@[simp] theorem State.setLine_meas (f : LineSettings → LineSettings) : (s.setLine f).meas = s.meas := rfl
@[simp] theorem State.setLine_contact (f : LineSettings → LineSettings) : (s.setLine f).contact = s.contact := rfl
@[simp] theorem State.setLine_alarm (f : LineSettings → LineSettings) : (s.setLine f).alarm = s.alarm := rfl
@[simp] theorem State.setLine_sections (f : LineSettings → LineSettings) : (s.setLine f).sections = s.sections := rfl
@[simp] theorem State.setLine_aux (f : LineSettings → LineSettings) : (s.setLine f).aux = s.aux := rfl
@[simp] theorem State.setLine_router (f : LineSettings → LineSettings) : (s.setLine f).router = s.router := rfl
@[simp] theorem State.setLine_store (f : LineSettings → LineSettings) : (s.setLine f).store = s.store := rfl
@[simp] theorem State.setLine_ports (f : LineSettings → LineSettings) : (s.setLine f).ports = s.ports := rfl
@[simp] theorem State.setLine_power (f : LineSettings → LineSettings) : (s.setLine f).power = s.power := rfl
@[simp] theorem State.setLine_pending (f : LineSettings → LineSettings) : (s.setLine f).pending = s.pending := rfl

@[simp] theorem State.setBattery_meas (f : BatterySettings → BatterySettings) : (s.setBattery f).meas = s.meas := rfl
@[simp] theorem State.setBattery_contact (f : BatterySettings → BatterySettings) : (s.setBattery f).contact = s.contact := rfl
@[simp] theorem State.setBattery_alarm (f : BatterySettings → BatterySettings) : (s.setBattery f).alarm = s.alarm := rfl
@[simp] theorem State.setBattery_sections (f : BatterySettings → BatterySettings) : (s.setBattery f).sections = s.sections := rfl
@[simp] theorem State.setBattery_aux (f : BatterySettings → BatterySettings) : (s.setBattery f).aux = s.aux := rfl
@[simp] theorem State.setBattery_router (f : BatterySettings → BatterySettings) : (s.setBattery f).router = s.router := rfl
@[simp] theorem State.setBattery_store (f : BatterySettings → BatterySettings) : (s.setBattery f).store = s.store := rfl
@[simp] theorem State.setBattery_ports (f : BatterySettings → BatterySettings) : (s.setBattery f).ports = s.ports := rfl
@[simp] theorem State.setBattery_power (f : BatterySettings → BatterySettings) : (s.setBattery f).power = s.power := rfl
@[simp] theorem State.setBattery_pending (f : BatterySettings → BatterySettings) : (s.setBattery f).pending = s.pending := rfl

@[simp] theorem State.setDemandSettings_meas (f : DemandSettings → DemandSettings) : (s.setDemandSettings f).meas = s.meas := rfl
@[simp] theorem State.setDemandSettings_contact (f : DemandSettings → DemandSettings) : (s.setDemandSettings f).contact = s.contact := rfl
@[simp] theorem State.setDemandSettings_alarm (f : DemandSettings → DemandSettings) : (s.setDemandSettings f).alarm = s.alarm := rfl
@[simp] theorem State.setDemandSettings_sections (f : DemandSettings → DemandSettings) : (s.setDemandSettings f).sections = s.sections := rfl
@[simp] theorem State.setDemandSettings_aux (f : DemandSettings → DemandSettings) : (s.setDemandSettings f).aux = s.aux := rfl
@[simp] theorem State.setDemandSettings_router (f : DemandSettings → DemandSettings) : (s.setDemandSettings f).router = s.router := rfl
@[simp] theorem State.setDemandSettings_store (f : DemandSettings → DemandSettings) : (s.setDemandSettings f).store = s.store := rfl
@[simp] theorem State.setDemandSettings_ports (f : DemandSettings → DemandSettings) : (s.setDemandSettings f).ports = s.ports := rfl
@[simp] theorem State.setDemandSettings_power (f : DemandSettings → DemandSettings) : (s.setDemandSettings f).power = s.power := rfl
@[simp] theorem State.setDemandSettings_pending (f : DemandSettings → DemandSettings) : (s.setDemandSettings f).pending = s.pending := rfl

@[simp] theorem State.setSectionSettings_meas (f : SectionSettings → SectionSettings) : (s.setSectionSettings f).meas = s.meas := rfl
@[simp] theorem State.setSectionSettings_contact (f : SectionSettings → SectionSettings) : (s.setSectionSettings f).contact = s.contact := rfl
@[simp] theorem State.setSectionSettings_alarm (f : SectionSettings → SectionSettings) : (s.setSectionSettings f).alarm = s.alarm := rfl
@[simp] theorem State.setSectionSettings_allot (f : SectionSettings → SectionSettings) : (s.setSectionSettings f).allot = s.allot := rfl
@[simp] theorem State.setSectionSettings_aux (f : SectionSettings → SectionSettings) : (s.setSectionSettings f).aux = s.aux := rfl
@[simp] theorem State.setSectionSettings_router (f : SectionSettings → SectionSettings) : (s.setSectionSettings f).router = s.router := rfl
@[simp] theorem State.setSectionSettings_store (f : SectionSettings → SectionSettings) : (s.setSectionSettings f).store = s.store := rfl
@[simp] theorem State.setSectionSettings_ports (f : SectionSettings → SectionSettings) : (s.setSectionSettings f).ports = s.ports := rfl
@[simp] theorem State.setSectionSettings_power (f : SectionSettings → SectionSettings) : (s.setSectionSettings f).power = s.power := rfl
@[simp] theorem State.setSectionSettings_pending (f : SectionSettings → SectionSettings) : (s.setSectionSettings f).pending = s.pending := rfl

@[simp] theorem State.setAuxSettings_meas (f : AuxSettings → AuxSettings) : (s.setAuxSettings f).meas = s.meas := rfl
@[simp] theorem State.setAuxSettings_contact (f : AuxSettings → AuxSettings) : (s.setAuxSettings f).contact = s.contact := rfl
@[simp] theorem State.setAuxSettings_alarm (f : AuxSettings → AuxSettings) : (s.setAuxSettings f).alarm = s.alarm := rfl
@[simp] theorem State.setAuxSettings_sections (f : AuxSettings → AuxSettings) : (s.setAuxSettings f).sections = s.sections := rfl
@[simp] theorem State.setAuxSettings_allot (f : AuxSettings → AuxSettings) : (s.setAuxSettings f).allot = s.allot := rfl
@[simp] theorem State.setAuxSettings_router (f : AuxSettings → AuxSettings) : (s.setAuxSettings f).router = s.router := rfl
@[simp] theorem State.setAuxSettings_store (f : AuxSettings → AuxSettings) : (s.setAuxSettings f).store = s.store := rfl
@[simp] theorem State.setAuxSettings_ports (f : AuxSettings → AuxSettings) : (s.setAuxSettings f).ports = s.ports := rfl
@[simp] theorem State.setAuxSettings_power (f : AuxSettings → AuxSettings) : (s.setAuxSettings f).power = s.power := rfl
@[simp] theorem State.setAuxSettings_pending (f : AuxSettings → AuxSettings) : (s.setAuxSettings f).pending = s.pending := rfl

@[simp] theorem State.setCalibration_contact (c : Channel) (f : Calibration → Calibration) : (s.setCalibration c f).contact = s.contact := rfl
@[simp] theorem State.setCalibration_alarm (c : Channel) (f : Calibration → Calibration) : (s.setCalibration c f).alarm = s.alarm := rfl
@[simp] theorem State.setCalibration_sections (c : Channel) (f : Calibration → Calibration) : (s.setCalibration c f).sections = s.sections := rfl
@[simp] theorem State.setCalibration_allot (c : Channel) (f : Calibration → Calibration) : (s.setCalibration c f).allot = s.allot := rfl
@[simp] theorem State.setCalibration_aux (c : Channel) (f : Calibration → Calibration) : (s.setCalibration c f).aux = s.aux := rfl
@[simp] theorem State.setCalibration_router (c : Channel) (f : Calibration → Calibration) : (s.setCalibration c f).router = s.router := rfl
@[simp] theorem State.setCalibration_store (c : Channel) (f : Calibration → Calibration) : (s.setCalibration c f).store = s.store := rfl
@[simp] theorem State.setCalibration_ports (c : Channel) (f : Calibration → Calibration) : (s.setCalibration c f).ports = s.ports := rfl
@[simp] theorem State.setCalibration_power (c : Channel) (f : Calibration → Calibration) : (s.setCalibration c f).power = s.power := rfl
@[simp] theorem State.setCalibration_pending (c : Channel) (f : Calibration → Calibration) : (s.setCalibration c f).pending = s.pending := rfl

@[simp] theorem State.placeSection_current (c : Option Nat) : (s.placeSection c).sections.current = c := rfl
@[simp] theorem State.setRecord_record (r : Record) : (s.setRecord r).allot.record = r := rfl
@[simp] theorem State.markCut_record : s.markCut.allot.record = s.allot.record := rfl
@[simp] theorem State.changeAlarms_alarm (u : AlarmUnit) : (s.changeAlarms u).alarm = u := rfl
@[simp] theorem State.settleContact_contact :
    s.settleContact.contact = s.contact.settle s.sections.gapOverride := rfl

end Sys2Proof.Machine
end

