-- ==== Sys2Proof/Laws/Frames.lean ====
section
/-! SUPPORT. What each shared operation leaves as it was, block by block: the lemmas that later proofs cite in place of
unfolding the operation. -/
namespace Sys2Proof.Machine

variable (s : State)

@[simp] theorem State.setAux_meas (a : Sequencer) : (s.setAux a).meas = s.meas := by simp only [State.setAux]; split <;> simp
@[simp] theorem State.setAux_contact (a : Sequencer) : (s.setAux a).contact = s.contact := by simp only [State.setAux]; split <;> simp
@[simp] theorem State.setAux_alarm (a : Sequencer) : (s.setAux a).alarm = s.alarm := by simp only [State.setAux]; split <;> simp
@[simp] theorem State.setAux_sections (a : Sequencer) : (s.setAux a).sections = s.sections := by simp only [State.setAux]; split <;> simp
@[simp] theorem State.setAux_allot (a : Sequencer) : (s.setAux a).allot = s.allot := by simp only [State.setAux]; split <;> simp
@[simp] theorem State.setAux_router (a : Sequencer) : (s.setAux a).router = s.router := by simp only [State.setAux]; split <;> simp
@[simp] theorem State.setAux_store (a : Sequencer) : (s.setAux a).store = s.store := by simp only [State.setAux]; split <;> simp
@[simp] theorem State.setAux_power (a : Sequencer) : (s.setAux a).power = s.power := by simp only [State.setAux]; split <;> simp
@[simp] theorem State.setAux_pending (a : Sequencer) : (s.setAux a).pending = s.pending := by simp only [State.setAux]; split <;> simp

@[simp] theorem State.shedOnCut_meas  : (s.shedOnCut).meas = s.meas := by simp [State.shedOnCut]
@[simp] theorem State.shedOnCut_contact  : (s.shedOnCut).contact = s.contact := by simp [State.shedOnCut]
@[simp] theorem State.shedOnCut_alarm  : (s.shedOnCut).alarm = s.alarm := by simp [State.shedOnCut]
@[simp] theorem State.shedOnCut_sections  : (s.shedOnCut).sections = s.sections := by simp [State.shedOnCut]
@[simp] theorem State.shedOnCut_allot  : (s.shedOnCut).allot = s.allot := by simp [State.shedOnCut]
@[simp] theorem State.shedOnCut_router  : (s.shedOnCut).router = s.router := by simp [State.shedOnCut]
@[simp] theorem State.shedOnCut_store  : (s.shedOnCut).store = s.store := by simp [State.shedOnCut]
@[simp] theorem State.shedOnCut_power  : (s.shedOnCut).power = s.power := by simp [State.shedOnCut]
@[simp] theorem State.shedOnCut_pending  : (s.shedOnCut).pending = s.pending := by simp [State.shedOnCut]

@[simp] theorem State.takeCut_meas  : (s.takeCut).meas = s.meas := by simp [State.takeCut]
@[simp] theorem State.takeCut_contact  : (s.takeCut).contact = s.contact := by simp [State.takeCut]
@[simp] theorem State.takeCut_alarm  : (s.takeCut).alarm = s.alarm := by simp [State.takeCut]
@[simp] theorem State.takeCut_sections  : (s.takeCut).sections = s.sections := by simp [State.takeCut]
@[simp] theorem State.takeCut_router  : (s.takeCut).router = s.router := by simp [State.takeCut]
@[simp] theorem State.takeCut_store  : (s.takeCut).store = s.store := by simp [State.takeCut]
@[simp] theorem State.takeCut_power  : (s.takeCut).power = s.power := by simp [State.takeCut]
@[simp] theorem State.takeCut_pending  : (s.takeCut).pending = s.pending := by simp [State.takeCut]

@[simp] theorem State.takeRestore_meas  : (s.takeRestore).meas = s.meas := by simp only [State.takeRestore]; split <;> rfl
@[simp] theorem State.takeRestore_contact  : (s.takeRestore).contact = s.contact := by simp only [State.takeRestore]; split <;> rfl
@[simp] theorem State.takeRestore_alarm  : (s.takeRestore).alarm = s.alarm := by simp only [State.takeRestore]; split <;> rfl
@[simp] theorem State.takeRestore_sections  : (s.takeRestore).sections = s.sections := by simp only [State.takeRestore]; split <;> rfl
@[simp] theorem State.takeRestore_aux  : (s.takeRestore).aux = s.aux := by simp only [State.takeRestore]; split <;> rfl
@[simp] theorem State.takeRestore_router  : (s.takeRestore).router = s.router := by simp only [State.takeRestore]; split <;> rfl
@[simp] theorem State.takeRestore_store  : (s.takeRestore).store = s.store := by simp only [State.takeRestore]; split <;> rfl
@[simp] theorem State.takeRestore_ports  : (s.takeRestore).ports = s.ports := by simp only [State.takeRestore]; split <;> rfl
@[simp] theorem State.takeRestore_power  : (s.takeRestore).power = s.power := by simp only [State.takeRestore]; split <;> rfl
@[simp] theorem State.takeRestore_pending  : (s.takeRestore).pending = s.pending := by simp only [State.takeRestore]; split <;> rfl

@[simp] theorem State.takeOvervoltageCut_meas  : (s.takeOvervoltageCut).meas = s.meas := by simp [State.takeOvervoltageCut]
@[simp] theorem State.takeOvervoltageCut_contact  : (s.takeOvervoltageCut).contact = s.contact := by simp [State.takeOvervoltageCut]
@[simp] theorem State.takeOvervoltageCut_alarm  : (s.takeOvervoltageCut).alarm = s.alarm := by simp [State.takeOvervoltageCut]
@[simp] theorem State.takeOvervoltageCut_sections  : (s.takeOvervoltageCut).sections = s.sections := by simp [State.takeOvervoltageCut]
@[simp] theorem State.takeOvervoltageCut_aux  : (s.takeOvervoltageCut).aux = s.aux := by simp [State.takeOvervoltageCut]
@[simp] theorem State.takeOvervoltageCut_router  : (s.takeOvervoltageCut).router = s.router := by simp [State.takeOvervoltageCut]
@[simp] theorem State.takeOvervoltageCut_store  : (s.takeOvervoltageCut).store = s.store := by simp [State.takeOvervoltageCut]
@[simp] theorem State.takeOvervoltageCut_power  : (s.takeOvervoltageCut).power = s.power := by simp [State.takeOvervoltageCut]
@[simp] theorem State.takeOvervoltageCut_pending  : (s.takeOvervoltageCut).pending = s.pending := by simp [State.takeOvervoltageCut]

@[simp] theorem State.takeModeCut_meas (m : Mode) : (s.takeModeCut m).meas = s.meas := by simp [State.takeModeCut]
@[simp] theorem State.takeModeCut_contact (m : Mode) : (s.takeModeCut m).contact = s.contact := by simp [State.takeModeCut]
@[simp] theorem State.takeModeCut_alarm (m : Mode) : (s.takeModeCut m).alarm = s.alarm := by simp [State.takeModeCut]
@[simp] theorem State.takeModeCut_sections (m : Mode) : (s.takeModeCut m).sections = s.sections := by simp [State.takeModeCut]
@[simp] theorem State.takeModeCut_router (m : Mode) : (s.takeModeCut m).router = s.router := by simp [State.takeModeCut]
@[simp] theorem State.takeModeCut_store (m : Mode) : (s.takeModeCut m).store = s.store := by simp [State.takeModeCut]
@[simp] theorem State.takeModeCut_power (m : Mode) : (s.takeModeCut m).power = s.power := by simp [State.takeModeCut]
@[simp] theorem State.takeModeCut_pending (m : Mode) : (s.takeModeCut m).pending = s.pending := by simp [State.takeModeCut]

@[simp] theorem State.takeLimits_meas (l : Limits) : (s.takeLimits l).meas = s.meas := by simp only [State.takeLimits]; split <;> simp
@[simp] theorem State.takeLimits_contact (l : Limits) : (s.takeLimits l).contact = s.contact := by simp only [State.takeLimits]; split <;> simp
@[simp] theorem State.takeLimits_alarm (l : Limits) : (s.takeLimits l).alarm = s.alarm := by simp only [State.takeLimits]; split <;> simp
@[simp] theorem State.takeLimits_sections (l : Limits) : (s.takeLimits l).sections = s.sections := by simp only [State.takeLimits]; split <;> simp
@[simp] theorem State.takeLimits_aux (l : Limits) : (s.takeLimits l).aux = s.aux := by simp only [State.takeLimits]; split <;> simp
@[simp] theorem State.takeLimits_router (l : Limits) : (s.takeLimits l).router = s.router := by simp only [State.takeLimits]; split <;> simp
@[simp] theorem State.takeLimits_store (l : Limits) : (s.takeLimits l).store = s.store := by simp only [State.takeLimits]; split <;> simp
@[simp] theorem State.takeLimits_power (l : Limits) : (s.takeLimits l).power = s.power := by simp only [State.takeLimits]; split <;> simp
@[simp] theorem State.takeLimits_pending (l : Limits) : (s.takeLimits l).pending = s.pending := by simp only [State.takeLimits]; split <;> simp

@[simp] theorem State.takeBatteryCut_meas  : (s.takeBatteryCut).meas = s.meas := by simp only [State.takeBatteryCut]; split <;> split <;> simp
@[simp] theorem State.takeBatteryCut_contact  : (s.takeBatteryCut).contact = s.contact := by simp only [State.takeBatteryCut]; split <;> split <;> simp
@[simp] theorem State.takeBatteryCut_alarm  : (s.takeBatteryCut).alarm = s.alarm := by simp only [State.takeBatteryCut]; split <;> split <;> simp
@[simp] theorem State.takeBatteryCut_sections  : (s.takeBatteryCut).sections = s.sections := by simp only [State.takeBatteryCut]; split <;> split <;> simp
@[simp] theorem State.takeBatteryCut_aux  : (s.takeBatteryCut).aux = s.aux := by simp only [State.takeBatteryCut]; split <;> split <;> simp
@[simp] theorem State.takeBatteryCut_router  : (s.takeBatteryCut).router = s.router := by simp only [State.takeBatteryCut]; split <;> split <;> simp
@[simp] theorem State.takeBatteryCut_store  : (s.takeBatteryCut).store = s.store := by simp only [State.takeBatteryCut]; split <;> split <;> simp
@[simp] theorem State.takeBatteryCut_power  : (s.takeBatteryCut).power = s.power := by simp only [State.takeBatteryCut]; split <;> split <;> simp
@[simp] theorem State.takeBatteryCut_pending  : (s.takeBatteryCut).pending = s.pending := by simp only [State.takeBatteryCut]; split <;> split <;> simp

@[simp] theorem State.takeBatteryLimit_meas (i : Nat) : (s.takeBatteryLimit i).meas = s.meas := by simp only [State.takeBatteryLimit]; split <;> simp
@[simp] theorem State.takeBatteryLimit_contact (i : Nat) : (s.takeBatteryLimit i).contact = s.contact := by simp only [State.takeBatteryLimit]; split <;> simp
@[simp] theorem State.takeBatteryLimit_alarm (i : Nat) : (s.takeBatteryLimit i).alarm = s.alarm := by simp only [State.takeBatteryLimit]; split <;> simp
@[simp] theorem State.takeBatteryLimit_sections (i : Nat) : (s.takeBatteryLimit i).sections = s.sections := by simp only [State.takeBatteryLimit]; split <;> simp
@[simp] theorem State.takeBatteryLimit_aux (i : Nat) : (s.takeBatteryLimit i).aux = s.aux := by simp only [State.takeBatteryLimit]; split <;> simp
@[simp] theorem State.takeBatteryLimit_router (i : Nat) : (s.takeBatteryLimit i).router = s.router := by simp only [State.takeBatteryLimit]; split <;> simp
@[simp] theorem State.takeBatteryLimit_store (i : Nat) : (s.takeBatteryLimit i).store = s.store := by simp only [State.takeBatteryLimit]; split <;> simp
@[simp] theorem State.takeBatteryLimit_power (i : Nat) : (s.takeBatteryLimit i).power = s.power := by simp only [State.takeBatteryLimit]; split <;> simp
@[simp] theorem State.takeBatteryLimit_pending (i : Nat) : (s.takeBatteryLimit i).pending = s.pending := by simp only [State.takeBatteryLimit]; split <;> simp

@[simp] theorem State.setInhibit_meas (x : InhibitSource) : (s.setInhibit x).meas = s.meas := by simp only [State.setInhibit]; split <;> rfl
@[simp] theorem State.setInhibit_contact (x : InhibitSource) : (s.setInhibit x).contact = s.contact := by simp only [State.setInhibit]; split <;> rfl
@[simp] theorem State.setInhibit_alarm (x : InhibitSource) : (s.setInhibit x).alarm = s.alarm := by simp only [State.setInhibit]; split <;> rfl
@[simp] theorem State.setInhibit_sections (x : InhibitSource) : (s.setInhibit x).sections = s.sections := by simp only [State.setInhibit]; split <;> rfl
@[simp] theorem State.setInhibit_aux (x : InhibitSource) : (s.setInhibit x).aux = s.aux := by simp only [State.setInhibit]; split <;> rfl
@[simp] theorem State.setInhibit_router (x : InhibitSource) : (s.setInhibit x).router = s.router := by simp only [State.setInhibit]; split <;> rfl
@[simp] theorem State.setInhibit_store (x : InhibitSource) : (s.setInhibit x).store = s.store := by simp only [State.setInhibit]; split <;> rfl
@[simp] theorem State.setInhibit_ports (x : InhibitSource) : (s.setInhibit x).ports = s.ports := by simp only [State.setInhibit]; split <;> rfl
@[simp] theorem State.setInhibit_power (x : InhibitSource) : (s.setInhibit x).power = s.power := by simp only [State.setInhibit]; split <;> rfl
@[simp] theorem State.setInhibit_pending (x : InhibitSource) : (s.setInhibit x).pending = s.pending := by simp only [State.setInhibit]; split <;> rfl

@[simp] theorem State.handLimits_meas  : (s.handLimits).meas = s.meas := by simp [State.handLimits]
@[simp] theorem State.handLimits_contact  : (s.handLimits).contact = s.contact := by simp [State.handLimits]
@[simp] theorem State.handLimits_alarm  : (s.handLimits).alarm = s.alarm := by simp [State.handLimits]
@[simp] theorem State.handLimits_sections  : (s.handLimits).sections = s.sections := by simp [State.handLimits]
@[simp] theorem State.handLimits_aux  : (s.handLimits).aux = s.aux := by simp [State.handLimits]
@[simp] theorem State.handLimits_router  : (s.handLimits).router = s.router := by simp [State.handLimits]
@[simp] theorem State.handLimits_store  : (s.handLimits).store = s.store := by simp [State.handLimits]
@[simp] theorem State.handLimits_power  : (s.handLimits).power = s.power := by simp [State.handLimits]
@[simp] theorem State.handLimits_pending  : (s.handLimits).pending = s.pending := by simp [State.handLimits]

@[simp] theorem State.handDefaultLimits_meas  : (s.handDefaultLimits).meas = s.meas := by simp only [State.handDefaultLimits]; split <;> simp
@[simp] theorem State.handDefaultLimits_contact  : (s.handDefaultLimits).contact = s.contact := by simp only [State.handDefaultLimits]; split <;> simp
@[simp] theorem State.handDefaultLimits_alarm  : (s.handDefaultLimits).alarm = s.alarm := by simp only [State.handDefaultLimits]; split <;> simp
@[simp] theorem State.handDefaultLimits_sections  : (s.handDefaultLimits).sections = s.sections := by simp only [State.handDefaultLimits]; split <;> simp
@[simp] theorem State.handDefaultLimits_aux  : (s.handDefaultLimits).aux = s.aux := by simp only [State.handDefaultLimits]; split <;> simp
@[simp] theorem State.handDefaultLimits_router  : (s.handDefaultLimits).router = s.router := by simp only [State.handDefaultLimits]; split <;> simp
@[simp] theorem State.handDefaultLimits_store  : (s.handDefaultLimits).store = s.store := by simp only [State.handDefaultLimits]; split <;> simp
@[simp] theorem State.handDefaultLimits_power  : (s.handDefaultLimits).power = s.power := by simp only [State.handDefaultLimits]; split <;> simp
@[simp] theorem State.handDefaultLimits_pending  : (s.handDefaultLimits).pending = s.pending := by simp only [State.handDefaultLimits]; split <;> simp

@[simp] theorem State.writeSection_meas (e : SectionEntry) : (s.writeSection e).meas = s.meas := by simp only [State.writeSection]; split <;> simp
@[simp] theorem State.writeSection_contact (e : SectionEntry) : (s.writeSection e).contact = s.contact := by simp only [State.writeSection]; split <;> simp
@[simp] theorem State.writeSection_alarm (e : SectionEntry) : (s.writeSection e).alarm = s.alarm := by simp only [State.writeSection]; split <;> simp
@[simp] theorem State.writeSection_aux (e : SectionEntry) : (s.writeSection e).aux = s.aux := by simp only [State.writeSection]; split <;> simp
@[simp] theorem State.writeSection_router (e : SectionEntry) : (s.writeSection e).router = s.router := by simp only [State.writeSection]; split <;> simp
@[simp] theorem State.writeSection_store (e : SectionEntry) : (s.writeSection e).store = s.store := by simp only [State.writeSection]; split <;> simp
@[simp] theorem State.writeSection_power (e : SectionEntry) : (s.writeSection e).power = s.power := by simp only [State.writeSection]; split <;> simp
@[simp] theorem State.writeSection_pending (e : SectionEntry) : (s.writeSection e).pending = s.pending := by simp only [State.writeSection]; split <;> simp

@[simp] theorem State.gapSeen_meas  : (s.gapSeen).meas = s.meas := by simp only [State.gapSeen]; split <;> rfl
@[simp] theorem State.gapSeen_contact  : (s.gapSeen).contact = s.contact := by simp only [State.gapSeen]; split <;> rfl
@[simp] theorem State.gapSeen_alarm  : (s.gapSeen).alarm = s.alarm := by simp only [State.gapSeen]; split <;> rfl
@[simp] theorem State.gapSeen_allot  : (s.gapSeen).allot = s.allot := by simp only [State.gapSeen]; split <;> rfl
@[simp] theorem State.gapSeen_aux  : (s.gapSeen).aux = s.aux := by simp only [State.gapSeen]; split <;> rfl
@[simp] theorem State.gapSeen_router  : (s.gapSeen).router = s.router := by simp only [State.gapSeen]; split <;> rfl
@[simp] theorem State.gapSeen_store  : (s.gapSeen).store = s.store := by simp only [State.gapSeen]; split <;> rfl
@[simp] theorem State.gapSeen_ports  : (s.gapSeen).ports = s.ports := by simp only [State.gapSeen]; split <;> rfl
@[simp] theorem State.gapSeen_power  : (s.gapSeen).power = s.power := by simp only [State.gapSeen]; split <;> rfl
@[simp] theorem State.gapSeen_pending  : (s.gapSeen).pending = s.pending := by simp only [State.gapSeen]; split <;> rfl

@[simp] theorem State.gapEnded_meas  : (s.gapEnded).meas = s.meas := by simp only [State.gapEnded]; split <;> [split <;> simp; rfl]
@[simp] theorem State.gapEnded_contact  : (s.gapEnded).contact = s.contact := by simp only [State.gapEnded]; split <;> [split <;> simp; rfl]
@[simp] theorem State.gapEnded_alarm  : (s.gapEnded).alarm = s.alarm := by simp only [State.gapEnded]; split <;> [split <;> simp; rfl]
@[simp] theorem State.gapEnded_aux  : (s.gapEnded).aux = s.aux := by simp only [State.gapEnded]; split <;> [split <;> simp; rfl]
@[simp] theorem State.gapEnded_router  : (s.gapEnded).router = s.router := by simp only [State.gapEnded]; split <;> [split <;> simp; rfl]
@[simp] theorem State.gapEnded_store  : (s.gapEnded).store = s.store := by simp only [State.gapEnded]; split <;> [split <;> simp; rfl]
@[simp] theorem State.gapEnded_power  : (s.gapEnded).power = s.power := by simp only [State.gapEnded]; split <;> [split <;> simp; rfl]
@[simp] theorem State.gapEnded_pending  : (s.gapEnded).pending = s.pending := by simp only [State.gapEnded]; split <;> [split <;> simp; rfl]

@[simp] theorem State.conditionEnd_meas (k : AlarmKey) : (s.conditionEnd k).meas = s.meas := by simp only [State.conditionEnd]; split <;> [rfl; (split <;> simp)]
@[simp] theorem State.conditionEnd_contact (k : AlarmKey) : (s.conditionEnd k).contact = s.contact := by simp only [State.conditionEnd]; split <;> [rfl; (split <;> simp)]
@[simp] theorem State.conditionEnd_sections (k : AlarmKey) : (s.conditionEnd k).sections = s.sections := by simp only [State.conditionEnd]; split <;> [rfl; (split <;> simp)]
@[simp] theorem State.conditionEnd_allot (k : AlarmKey) : (s.conditionEnd k).allot = s.allot := by simp only [State.conditionEnd]; split <;> [rfl; (split <;> simp)]
@[simp] theorem State.conditionEnd_aux (k : AlarmKey) : (s.conditionEnd k).aux = s.aux := by simp only [State.conditionEnd]; split <;> [rfl; (split <;> simp)]
@[simp] theorem State.conditionEnd_router (k : AlarmKey) : (s.conditionEnd k).router = s.router := by simp only [State.conditionEnd]; split <;> [rfl; (split <;> simp)]
@[simp] theorem State.conditionEnd_store (k : AlarmKey) : (s.conditionEnd k).store = s.store := by simp only [State.conditionEnd]; split <;> [rfl; (split <;> simp)]
@[simp] theorem State.conditionEnd_power (k : AlarmKey) : (s.conditionEnd k).power = s.power := by simp only [State.conditionEnd]; split <;> [rfl; (split <;> simp)]
@[simp] theorem State.conditionEnd_pending (k : AlarmKey) : (s.conditionEnd k).pending = s.pending := by simp only [State.conditionEnd]; split <;> [rfl; (split <;> simp)]

@[simp] theorem State.enterAlarm_meas (k : AlarmKey) (c : Option ConditionClass) (b : ContactState) (n : Nat) : (s.enterAlarm k c b n).meas = s.meas := by simp only [State.enterAlarm]; split <;> simp
@[simp] theorem State.enterAlarm_contact (k : AlarmKey) (c : Option ConditionClass) (b : ContactState) (n : Nat) : (s.enterAlarm k c b n).contact = s.contact := by simp only [State.enterAlarm]; split <;> simp
@[simp] theorem State.enterAlarm_sections (k : AlarmKey) (c : Option ConditionClass) (b : ContactState) (n : Nat) : (s.enterAlarm k c b n).sections = s.sections := by simp only [State.enterAlarm]; split <;> simp
@[simp] theorem State.enterAlarm_allot (k : AlarmKey) (c : Option ConditionClass) (b : ContactState) (n : Nat) : (s.enterAlarm k c b n).allot = s.allot := by simp only [State.enterAlarm]; split <;> simp
@[simp] theorem State.enterAlarm_aux (k : AlarmKey) (c : Option ConditionClass) (b : ContactState) (n : Nat) : (s.enterAlarm k c b n).aux = s.aux := by simp only [State.enterAlarm]; split <;> simp
@[simp] theorem State.enterAlarm_router (k : AlarmKey) (c : Option ConditionClass) (b : ContactState) (n : Nat) : (s.enterAlarm k c b n).router = s.router := by simp only [State.enterAlarm]; split <;> simp
@[simp] theorem State.enterAlarm_store (k : AlarmKey) (c : Option ConditionClass) (b : ContactState) (n : Nat) : (s.enterAlarm k c b n).store = s.store := by simp only [State.enterAlarm]; split <;> simp
@[simp] theorem State.enterAlarm_power (k : AlarmKey) (c : Option ConditionClass) (b : ContactState) (n : Nat) : (s.enterAlarm k c b n).power = s.power := by simp only [State.enterAlarm]; split <;> simp
@[simp] theorem State.enterAlarm_pending (k : AlarmKey) (c : Option ConditionClass) (b : ContactState) (n : Nat) : (s.enterAlarm k c b n).pending = s.pending := by simp only [State.enterAlarm]; split <;> simp

@[simp] theorem State.lineSignals_meas (b a : ContactState) : (s.lineSignals b a).meas = s.meas := by simp only [State.lineSignals]; (repeat' split) <;> simp
@[simp] theorem State.lineSignals_contact (b a : ContactState) : (s.lineSignals b a).contact = s.contact := by simp only [State.lineSignals]; (repeat' split) <;> simp
@[simp] theorem State.lineSignals_alarm (b a : ContactState) : (s.lineSignals b a).alarm = s.alarm := by simp only [State.lineSignals]; (repeat' split) <;> simp
@[simp] theorem State.lineSignals_sections (b a : ContactState) : (s.lineSignals b a).sections = s.sections := by simp only [State.lineSignals]; (repeat' split) <;> simp
@[simp] theorem State.lineSignals_router (b a : ContactState) : (s.lineSignals b a).router = s.router := by simp only [State.lineSignals]; (repeat' split) <;> simp
@[simp] theorem State.lineSignals_store (b a : ContactState) : (s.lineSignals b a).store = s.store := by simp only [State.lineSignals]; (repeat' split) <;> simp
@[simp] theorem State.lineSignals_power (b a : ContactState) : (s.lineSignals b a).power = s.power := by simp only [State.lineSignals]; (repeat' split) <;> simp
@[simp] theorem State.lineSignals_pending (b a : ContactState) : (s.lineSignals b a).pending = s.pending := by simp only [State.lineSignals]; (repeat' split) <;> simp

@[simp] theorem State.sectionSignals_meas (b a : ContactState) : (s.sectionSignals b a).meas = s.meas := by simp only [State.sectionSignals]; (repeat' split) <;> simp
@[simp] theorem State.sectionSignals_contact (b a : ContactState) : (s.sectionSignals b a).contact = s.contact := by simp only [State.sectionSignals]; (repeat' split) <;> simp
@[simp] theorem State.sectionSignals_alarm (b a : ContactState) : (s.sectionSignals b a).alarm = s.alarm := by simp only [State.sectionSignals]; (repeat' split) <;> simp
@[simp] theorem State.sectionSignals_aux (b a : ContactState) : (s.sectionSignals b a).aux = s.aux := by simp only [State.sectionSignals]; (repeat' split) <;> simp
@[simp] theorem State.sectionSignals_router (b a : ContactState) : (s.sectionSignals b a).router = s.router := by simp only [State.sectionSignals]; (repeat' split) <;> simp
@[simp] theorem State.sectionSignals_store (b a : ContactState) : (s.sectionSignals b a).store = s.store := by simp only [State.sectionSignals]; (repeat' split) <;> simp
@[simp] theorem State.sectionSignals_power (b a : ContactState) : (s.sectionSignals b a).power = s.power := by simp only [State.sectionSignals]; (repeat' split) <;> simp
@[simp] theorem State.sectionSignals_pending (b a : ContactState) : (s.sectionSignals b a).pending = s.pending := by simp only [State.sectionSignals]; (repeat' split) <;> simp

@[simp] theorem State.endLineLost_meas (b a : ContactState) : (s.endLineLost b a).meas = s.meas := by simp only [State.endLineLost]; split <;> simp
@[simp] theorem State.endLineLost_contact (b a : ContactState) : (s.endLineLost b a).contact = s.contact := by simp only [State.endLineLost]; split <;> simp
@[simp] theorem State.endLineLost_sections (b a : ContactState) : (s.endLineLost b a).sections = s.sections := by simp only [State.endLineLost]; split <;> simp
@[simp] theorem State.endLineLost_allot (b a : ContactState) : (s.endLineLost b a).allot = s.allot := by simp only [State.endLineLost]; split <;> simp
@[simp] theorem State.endLineLost_aux (b a : ContactState) : (s.endLineLost b a).aux = s.aux := by simp only [State.endLineLost]; split <;> simp
@[simp] theorem State.endLineLost_router (b a : ContactState) : (s.endLineLost b a).router = s.router := by simp only [State.endLineLost]; split <;> simp
@[simp] theorem State.endLineLost_store (b a : ContactState) : (s.endLineLost b a).store = s.store := by simp only [State.endLineLost]; split <;> simp
@[simp] theorem State.endLineLost_power (b a : ContactState) : (s.endLineLost b a).power = s.power := by simp only [State.endLineLost]; split <;> simp
@[simp] theorem State.endLineLost_pending (b a : ContactState) : (s.endLineLost b a).pending = s.pending := by simp only [State.endLineLost]; split <;> simp

@[simp] theorem State.noticeContact_meas (c : Bool) : (s.noticeContact c).meas = s.meas := by simp only [State.noticeContact]; split <;> simp
@[simp] theorem State.noticeContact_contact (c : Bool) : (s.noticeContact c).contact = s.contact := by simp only [State.noticeContact]; split <;> simp
@[simp] theorem State.noticeContact_alarm (c : Bool) : (s.noticeContact c).alarm = s.alarm := by simp only [State.noticeContact]; split <;> simp
@[simp] theorem State.noticeContact_sections (c : Bool) : (s.noticeContact c).sections = s.sections := by simp only [State.noticeContact]; split <;> simp
@[simp] theorem State.noticeContact_allot (c : Bool) : (s.noticeContact c).allot = s.allot := by simp only [State.noticeContact]; split <;> simp
@[simp] theorem State.noticeContact_aux (c : Bool) : (s.noticeContact c).aux = s.aux := by simp only [State.noticeContact]; split <;> simp
@[simp] theorem State.noticeContact_router (c : Bool) : (s.noticeContact c).router = s.router := by simp only [State.noticeContact]; split <;> simp
@[simp] theorem State.noticeContact_store (c : Bool) : (s.noticeContact c).store = s.store := by simp only [State.noticeContact]; split <;> simp
@[simp] theorem State.noticeContact_power (c : Bool) : (s.noticeContact c).power = s.power := by simp only [State.noticeContact]; split <;> simp
@[simp] theorem State.noticeContact_pending (c : Bool) : (s.noticeContact c).pending = s.pending := by simp only [State.noticeContact]; split <;> simp

@[simp] theorem State.lowerPoles_meas  : (s.lowerPoles).meas = s.meas := by simp only [State.lowerPoles]; split <;> simp
@[simp] theorem State.lowerPoles_router  : (s.lowerPoles).router = s.router := by simp only [State.lowerPoles]; split <;> simp
@[simp] theorem State.lowerPoles_store  : (s.lowerPoles).store = s.store := by simp only [State.lowerPoles]; split <;> simp
@[simp] theorem State.lowerPoles_power  : (s.lowerPoles).power = s.power := by simp only [State.lowerPoles]; split <;> simp
@[simp] theorem State.lowerPoles_pending  : (s.lowerPoles).pending = s.pending := by simp only [State.lowerPoles]; split <;> simp

@[simp] theorem State.changeMode_meas (m : Mode) (c : ModeCause) : (s.changeMode m c).meas = s.meas := by simp only [State.changeMode]; split <;> simp
@[simp] theorem State.changeMode_contact (m : Mode) (c : ModeCause) : (s.changeMode m c).contact = s.contact := by simp only [State.changeMode]; split <;> simp
@[simp] theorem State.changeMode_alarm (m : Mode) (c : ModeCause) : (s.changeMode m c).alarm = s.alarm := by simp only [State.changeMode]; split <;> simp
@[simp] theorem State.changeMode_sections (m : Mode) (c : ModeCause) : (s.changeMode m c).sections = s.sections := by simp only [State.changeMode]; split <;> simp
@[simp] theorem State.changeMode_store (m : Mode) (c : ModeCause) : (s.changeMode m c).store = s.store := by simp only [State.changeMode]; split <;> simp
@[simp] theorem State.changeMode_power (m : Mode) (c : ModeCause) : (s.changeMode m c).power = s.power := by simp only [State.changeMode]; split <;> simp
@[simp] theorem State.changeMode_pending (m : Mode) (c : ModeCause) : (s.changeMode m c).pending = s.pending := by simp only [State.changeMode]; split <;> simp

@[simp] theorem State.perform_meas (a : Action) : (s.perform a).meas = s.meas := by cases a <;> simp [State.perform]
@[simp] theorem State.perform_router (a : Action) : (s.perform a).router = s.router := by cases a <;> simp [State.perform]
@[simp] theorem State.perform_store (a : Action) : (s.perform a).store = s.store := by cases a <;> simp [State.perform]
@[simp] theorem State.perform_power (a : Action) : (s.perform a).power = s.power := by cases a <;> simp [State.perform]
@[simp] theorem State.perform_pending (a : Action) : (s.perform a).pending = s.pending := by cases a <;> simp [State.perform]

@[simp] theorem State.latchEvent_meas (e : Event) : (s.latchEvent e).meas = s.meas := by simp only [State.latchEvent]; split <;> simp
@[simp] theorem State.latchEvent_contact (e : Event) : (s.latchEvent e).contact = s.contact := by simp only [State.latchEvent]; split <;> simp
@[simp] theorem State.latchEvent_alarm (e : Event) : (s.latchEvent e).alarm = s.alarm := by simp only [State.latchEvent]; split <;> simp
@[simp] theorem State.latchEvent_sections (e : Event) : (s.latchEvent e).sections = s.sections := by simp only [State.latchEvent]; split <;> simp
@[simp] theorem State.latchEvent_store (e : Event) : (s.latchEvent e).store = s.store := by simp only [State.latchEvent]; split <;> simp
@[simp] theorem State.latchEvent_power (e : Event) : (s.latchEvent e).power = s.power := by simp only [State.latchEvent]; split <;> simp
@[simp] theorem State.latchEvent_pending (e : Event) : (s.latchEvent e).pending = s.pending := by simp only [State.latchEvent]; split <;> simp

@[simp] theorem State.handleEvent_meas (e : Event) : (s.handleEvent e).meas = s.meas := by simp only [State.handleEvent]; split <;> simp
@[simp] theorem State.handleEvent_store (e : Event) : (s.handleEvent e).store = s.store := by simp only [State.handleEvent]; split <;> simp
@[simp] theorem State.handleEvent_power (e : Event) : (s.handleEvent e).power = s.power := by simp only [State.handleEvent]; split <;> simp
@[simp] theorem State.handleEvent_pending (e : Event) : (s.handleEvent e).pending = s.pending := by simp only [State.handleEvent]; split <;> simp

@[simp] theorem State.handleEvents_meas (es : List Event) : (s.handleEvents es).meas = s.meas := by
  simp only [State.handleEvents]
  induction es generalizing s with
  | nil => rfl
  | cons e es ih => simp [ih]

@[simp] theorem State.handleEvents_store (es : List Event) : (s.handleEvents es).store = s.store := by
  simp only [State.handleEvents]
  induction es generalizing s with
  | nil => rfl
  | cons e es ih => simp [ih]

@[simp] theorem State.handleEvents_power (es : List Event) : (s.handleEvents es).power = s.power := by
  simp only [State.handleEvents]
  induction es generalizing s with
  | nil => rfl
  | cons e es ih => simp [ih]

@[simp] theorem State.handleEvents_pending (es : List Event) : (s.handleEvents es).pending = s.pending := by
  simp only [State.handleEvents]
  induction es generalizing s with
  | nil => rfl
  | cons e es ih => simp [ih]

@[simp] theorem State.raiseAlarm_meas (k : AlarmKey) (c : Option ConditionClass) (b : ContactState) (n : Nat) : (s.raiseAlarm k c b n).meas = s.meas := by simp [State.raiseAlarm]
@[simp] theorem State.raiseAlarm_store (k : AlarmKey) (c : Option ConditionClass) (b : ContactState) (n : Nat) : (s.raiseAlarm k c b n).store = s.store := by simp [State.raiseAlarm]
@[simp] theorem State.raiseAlarm_power (k : AlarmKey) (c : Option ConditionClass) (b : ContactState) (n : Nat) : (s.raiseAlarm k c b n).power = s.power := by simp [State.raiseAlarm]
@[simp] theorem State.raiseAlarm_pending (k : AlarmKey) (c : Option ConditionClass) (b : ContactState) (n : Nat) : (s.raiseAlarm k c b n).pending = s.pending := by simp [State.raiseAlarm]

@[simp] theorem State.takeAlarm_meas (b : ContactState) (n : Nat) (x : AlarmSignal) :
    (State.takeAlarm b n s x).meas = s.meas := by cases x <;> simp [State.takeAlarm]

@[simp] theorem State.takeAlarms_meas (b : ContactState) (n : Nat) (xs : List AlarmSignal) :
    (xs.foldl (State.takeAlarm b n) s).meas = s.meas := by
  induction xs generalizing s with
  | nil => rfl
  | cons x xs ih => simp [ih]

@[simp] theorem State.handOver_meas (before : ContactUnit) (n : Nat) (h : HandOver) :
    (s.handOver before n h).meas = s.meas := by
  simp only [State.handOver]
  repeat' split
  all_goals simp

@[simp] theorem State.takeAlarm_store (b : ContactState) (n : Nat) (x : AlarmSignal) :
    (State.takeAlarm b n s x).store = s.store := by cases x <;> simp [State.takeAlarm]

@[simp] theorem State.takeAlarms_store (b : ContactState) (n : Nat) (xs : List AlarmSignal) :
    (xs.foldl (State.takeAlarm b n) s).store = s.store := by
  induction xs generalizing s with
  | nil => rfl
  | cons x xs ih => simp [ih]

@[simp] theorem State.handOver_store (before : ContactUnit) (n : Nat) (h : HandOver) :
    (s.handOver before n h).store = s.store := by
  simp only [State.handOver]
  repeat' split
  all_goals simp

@[simp] theorem State.takeAlarm_power (b : ContactState) (n : Nat) (x : AlarmSignal) :
    (State.takeAlarm b n s x).power = s.power := by cases x <;> simp [State.takeAlarm]

@[simp] theorem State.takeAlarms_power (b : ContactState) (n : Nat) (xs : List AlarmSignal) :
    (xs.foldl (State.takeAlarm b n) s).power = s.power := by
  induction xs generalizing s with
  | nil => rfl
  | cons x xs ih => simp [ih]

@[simp] theorem State.handOver_power (before : ContactUnit) (n : Nat) (h : HandOver) :
    (s.handOver before n h).power = s.power := by
  simp only [State.handOver]
  repeat' split
  all_goals simp

@[simp] theorem State.takeAlarm_pending (b : ContactState) (n : Nat) (x : AlarmSignal) :
    (State.takeAlarm b n s x).pending = s.pending := by cases x <;> simp [State.takeAlarm]

@[simp] theorem State.takeAlarms_pending (b : ContactState) (n : Nat) (xs : List AlarmSignal) :
    (xs.foldl (State.takeAlarm b n) s).pending = s.pending := by
  induction xs generalizing s with
  | nil => rfl
  | cons x xs ih => simp [ih]

@[simp] theorem State.handOver_pending (before : ContactUnit) (n : Nat) (h : HandOver) :
    (s.handOver before n h).pending = s.pending := by
  simp only [State.handOver]
  repeat' split
  all_goals simp

@[simp] theorem State.sweep_store (codes : Vector RawCode 8) : (s.sweep codes).store = s.store := by
  simp [State.sweep]

@[simp] theorem State.sweep_power (codes : Vector RawCode 8) : (s.sweep codes).power = s.power := by
  simp [State.sweep]

@[simp] theorem State.sweep_pending (codes : Vector RawCode 8) : (s.sweep codes).pending = s.pending := by
  simp [State.sweep]

@[simp] theorem State.testEssential_meas (r : Record) : (s.testEssential r).meas = s.meas := by
  simp only [State.testEssential]
  repeat' split
  all_goals simp

@[simp] theorem State.takePublication_meas (r : Record) : (s.takePublication r).meas = s.meas := by
  simp [State.takePublication]

@[simp] theorem State.expireFrame_meas : s.expireFrame.meas = s.meas := by
  simp only [State.expireFrame]
  split <;> simp

@[simp] theorem State.testEssential_store (r : Record) : (s.testEssential r).store = s.store := by
  simp only [State.testEssential]
  repeat' split
  all_goals simp

@[simp] theorem State.takePublication_store (r : Record) : (s.takePublication r).store = s.store := by
  simp [State.takePublication]

@[simp] theorem State.expireFrame_store : s.expireFrame.store = s.store := by
  simp only [State.expireFrame]
  split <;> simp

@[simp] theorem State.testEssential_power (r : Record) : (s.testEssential r).power = s.power := by
  simp only [State.testEssential]
  repeat' split
  all_goals simp

@[simp] theorem State.takePublication_power (r : Record) : (s.takePublication r).power = s.power := by
  simp [State.takePublication]

@[simp] theorem State.expireFrame_power : s.expireFrame.power = s.power := by
  simp only [State.expireFrame]
  split <;> simp

@[simp] theorem State.testEssential_pending (r : Record) : (s.testEssential r).pending = s.pending := by
  simp only [State.testEssential]
  repeat' split
  all_goals simp

@[simp] theorem State.takePublication_pending (r : Record) : (s.takePublication r).pending = s.pending := by
  simp [State.takePublication]

@[simp] theorem State.expireFrame_pending : s.expireFrame.pending = s.pending := by
  simp only [State.expireFrame]
  split <;> simp

end Sys2Proof.Machine
end

