-- ==== Sys2Proof/Laws/Ports.lean ====
section
/-! SUPPORT. Each port after the operations that change ports, and what a notice queue and a transmitter's choice can be
after one. -/
namespace Sys2Proof.Machine

/-! ## One port after an operation on all -/

@[simp] theorem State.mapPorts_port (s : State) (f : PortId → Port → Port) (i : Nat) (h : i < 4) :
    (s.mapPorts f).ports[i] = f ⟨i, h⟩ s.ports[i] := by
  simp [State.mapPorts]

theorem State.setPort_port (s : State) (p : PortId) (port : Port) (i : Nat) (h : i < 4) :
    (s.setPort p port).ports[i] = if p.val = i then port else s.ports[i] := by
  simp [State.setPort, Vector.getElem_set]

@[simp] theorem State.setPort_same (s : State) (p : PortId) (port : Port) :
    (s.setPort p port).ports[p.val] = port := by
  simp [State.setPort]

theorem State.setPort_other (s : State) (p q : PortId) (port : Port) (h : q ≠ p) :
    (s.setPort p port).ports[q] = s.ports[q] := by
  have : p.val ≠ q.val := fun e => h (Fin.ext e.symm)
  simp [State.setPort_port, this]

@[simp] theorem State.queueTo_port (s : State) (dest : PortId → Bool) (n : Notice) (i : Nat) (h : i < 4) :
    (s.queueTo dest n).ports[i] =
      if dest ⟨i, h⟩ then { s.ports[i] with queue := enqueue n (s.ports[i]).queue } else s.ports[i] := by
  simp [State.queueTo]

@[simp] theorem State.beginWaiting_port (s : State) (i : Nat) (h : i < 4) :
    s.beginWaiting.ports[i] = (s.ports[i]).beginWaiting := by
  simp [State.beginWaiting]

@[simp] theorem State.hunt_port (s : State) (p : PortId) :
    (s.hunt p).ports[p.val] = { s.ports[p.val] with receiver := .hunting } := by
  simp [State.hunt]

@[simp] theorem State.hunt_role (s : State) (p q : PortId) : (s.hunt p).role q = s.role q := by
  simp only [State.role, State.hunt, Fin.getElem_fin, State.setPort_port]
  split
  · next h => rw [Fin.ext h]
  · rfl

@[simp] theorem State.queueTo_role (s : State) (dest : PortId → Bool) (n : Notice) (p : PortId) :
    (s.queueTo dest n).role p = s.role p := by
  simp only [State.role, Fin.getElem_fin, State.queueTo_port]
  split <;> rfl

@[simp] theorem State.notify_role (s : State) (n : Notice) (p : PortId) : (s.notify n).role p = s.role p :=
  s.queueTo_role _ n p

/-- Two states with the same blocks and the same ports are the same. -/
theorem State.ports_ext (s t : State) (hm : s.meas = t.meas) (hc : s.contact = t.contact) (ha : s.alarm = t.alarm)
    (hs : s.sections = t.sections) (hl : s.allot = t.allot) (hx : s.aux = t.aux) (hr : s.router = t.router)
    (ho : s.store = t.store) (hw : s.power = t.power) (hq : s.pending = t.pending)
    (hp : ∀ p : PortId, s.ports[p] = t.ports[p]) : s = t := by
  have hports : s.ports = t.ports := Vector.ext fun i hi => hp ⟨i, hi⟩
  cases s; cases t; simp_all

/-! ## Queues -/

@[simp] theorem Notice.takeIn_kind (m n : Notice) (h : m.kind = n.kind) : (m.takeIn n).kind = n.kind := by
  cases m <;> cases n <;> simp_all [Notice.takeIn, Notice.kind]

/-- A notice of a kind that waits changes no kind of the queue; any other adds its own at the end (R175). -/
theorem enqueue_kinds (n : Notice) (q : List Notice) :
    (enqueue n q).map Notice.kind =
      if n.kind ∈ q.map Notice.kind then q.map Notice.kind else q.map Notice.kind ++ [n.kind] := by
  induction q with
  | nil => simp [enqueue]
  | cons m rest ih =>
    by_cases h : m.kind = n.kind
    · simp [enqueue, h, Notice.takeIn_kind m n h]
    · have h' : n.kind ≠ m.kind := fun e => h e.symm
      simp only [enqueue, h, if_false, List.map_cons, ih, List.mem_cons, h', false_or]
      split <;> simp_all

/-- What is in a queue after a notice has been queued: the old entries, the notice, or an entry that took it in. -/
theorem mem_enqueue (n x : Notice) (q : List Notice) (h : x ∈ enqueue n q) :
    x ∈ q ∨ x = n ∨ ∃ m ∈ q, m.kind = n.kind ∧ x = m.takeIn n := by
  induction q with
  | nil => simp_all [enqueue]
  | cons m rest ih =>
    simp only [enqueue] at h
    split at h
    · next hk =>
      rcases List.mem_cons.1 h with rfl | h
      · exact .inr (.inr ⟨m, by simp, hk, rfl⟩)
      · exact .inl (by simp [h])
    · rcases List.mem_cons.1 h with rfl | h
      · exact .inl (by simp)
      · rcases ih h with h | h | ⟨y, hy, hk, he⟩
        · exact .inl (by simp [h])
        · exact .inr (.inl h)
        · exact .inr (.inr ⟨y, by simp [hy], hk, he⟩)

/-! ## The transmitter's choice -/

/-- What an idle transmitter's choice can be (R176, R177): none, the reply in the slot, or the oldest notice. -/
theorem Port.beginWaiting_cases (port : Port) :
    port.beginWaiting = port ∨
      (port.tx = none ∧ port.slot.isSome ∧ port.beginWaiting = { port with tx := some .replyPart }) ∨
      ∃ n rest, port.tx = none ∧ port.slot = none ∧ port.inForce.duplex = .full ∧ port.queue = n :: rest ∧
        port.beginWaiting = { port with tx := some (.notice n), queue := rest } := by
  unfold Port.beginWaiting
  split
  · exact .inl rfl
  · next htx =>
    split
    · next hs => exact .inr (.inl ⟨htx, by simp [hs], rfl⟩)
    · next hs =>
      split
      · next n rest hd hq => exact .inr (.inr ⟨n, rest, htx, hs, hd, hq, rfl⟩)
      · exact .inl rfl

@[simp] theorem Port.beginWaiting_inForce (port : Port) : port.beginWaiting.inForce = port.inForce := by
  rcases port.beginWaiting_cases with h | ⟨_, _, h⟩ | ⟨_, _, _, _, _, _, h⟩ <;> rw [h]

@[simp] theorem Port.beginWaiting_slot (port : Port) : port.beginWaiting.slot = port.slot := by
  rcases port.beginWaiting_cases with h | ⟨_, _, h⟩ | ⟨_, _, _, _, _, _, h⟩ <;> rw [h]

@[simp] theorem Port.beginWaiting_counts (port : Port) : port.beginWaiting.counts = port.counts := by
  rcases port.beginWaiting_cases with h | ⟨_, _, h⟩ | ⟨_, _, _, _, _, _, h⟩ <;> rw [h]

@[simp] theorem Port.beginWaiting_receiver (port : Port) : port.beginWaiting.receiver = port.receiver := by
  rcases port.beginWaiting_cases with h | ⟨_, _, h⟩ | ⟨_, _, _, _, _, _, h⟩ <;> rw [h]

/-- A choice once made stands. -/
@[simp] theorem Port.beginWaiting_twice (port : Port) : port.beginWaiting.beginWaiting = port.beginWaiting := by
  rcases port.beginWaiting_cases with h | ⟨_, _, h⟩ | ⟨_, _, _, _, _, _, h⟩
  · rw [h, h]
  · rw [h]; rfl
  · rw [h]; rfl

end Sys2Proof.Machine
end

