-- ==== Sys2Proof/Laws/Requests.lean ====
section
/-! SUPPORT. What an event and a request's complete frame can do, by the lines of R171 and R172: the one lemma for each
that the statements about commands rest on. -/
namespace Sys2Proof.Machine

/-- While no reset is in progress an event is taken whole and the transmitters make their choice. -/
theorem State.act_of_up (s : State) (f : State → State) (h : s.up = true) : s.act f = .next (f s).beginWaiting := by
  simp [State.act, h]

/-- During a reset nothing reaches a block (log 4). -/
theorem State.act_of_down (s : State) (f : State → State) (h : s.up = false) : s.act f = .next s := by
  simp [State.act, h]

/-- An event always answers a next state. -/
theorem State.act_next (s : State) (f : State → State) :
    s.act f = .next (if s.up = true then (f s).beginWaiting else s) := by
  simp only [State.act]; split <;> rfl

/-- A port that hears a complete frame takes it with its receiver hunting again. -/
theorem State.actFrame_of_heard (s : State) (p : PortId) (f : State → State) (hu : s.up = true)
    (hd : (s.ports[p]).deaf = false) : s.actFrame p f = .next (f (s.hunt p)).beginWaiting := by
  simp only [Fin.getElem_fin] at hd
  simp [State.actFrame, State.act_of_up, hu, hd]

/-- A deaf port takes nothing (R171). -/
theorem State.actFrame_of_deaf (s : State) (p : PortId) (f : State → State) (hu : s.up = true)
    (hd : (s.ports[p]).deaf = true) : s.actFrame p f = .next s.beginWaiting := by
  simp only [Fin.getElem_fin] at hd
  simp [State.actFrame, State.act_of_up, hu, hd]

/-- A complete frame is counted as an overrun, answered FORMAT or ROLE_REFUSED, or taken by its owner (R172). -/
theorem State.takeRequest_cases (s : State) (p : PortId) (kind tag : Byte) (good : Bool) (take : State → Answer) :
    ((s.ports[p]).slot.isSome ∧ s.takeRequest p kind tag good take = s.countOverrun p) ∨
      ((s.ports[p]).slot = none ∧ good = false ∧
        s.takeRequest p kind tag good take = s.enterReply p ⟨kind, tag, .format, .none⟩) ∨
      ((s.ports[p]).slot = none ∧ good = true ∧ (s.role p).permits kind = false ∧
        s.takeRequest p kind tag good take = s.enterReply p ⟨kind, tag, .roleRefused, .none⟩) ∨
      ((s.ports[p]).slot = none ∧ good = true ∧ (s.role p).permits kind = true ∧
        s.takeRequest p kind tag good take =
          (take s).state.enterReply p ⟨kind, tag, (take s).code, (take s).content⟩) := by
  unfold State.takeRequest
  cases hs : (s.ports[p]).slot <;> cases good <;> cases hr : (s.role p).permits kind <;> simp

/-- A request that a port takes reaches its owner with the receiver hunting, and the owner's reply enters the slot. -/
theorem State.actRequest_of_takes (s : State) (p : PortId) (kind tag : Byte) (take : State → Answer)
    (h : s.Hears p) (hr : (s.role p).permits kind = true) :
    s.actRequest p kind tag take =
      .next ((take (s.hunt p)).state.answered p kind tag (take (s.hunt p)).code (take (s.hunt p)).content) := by
  obtain ⟨hu, hd, hs⟩ := h
  rw [State.actRequest, State.actFrame_of_heard _ _ _ hu hd]
  simp only [Fin.getElem_fin] at hs
  simp [State.takeRequest, hs, hr, State.answered]

/-- A request heard at a port whose reply slot is occupied is counted and not taken. -/
theorem State.actRequest_of_occupied (s : State) (p : PortId) (kind tag : Byte) (take : State → Answer)
    (hu : s.up = true) (hd : (s.ports[p]).deaf = false) (hs : (s.ports[p]).slot.isSome = true) :
    s.actRequest p kind tag take = .next ((s.hunt p).countOverrun p).beginWaiting := by
  rw [State.actRequest, State.actFrame_of_heard _ _ _ hu hd]
  simp only [Fin.getElem_fin] at hs
  simp [State.takeRequest, hs]

/-- A request heard at a port whose role does not permit it is refused. -/
theorem State.actRequest_of_refused (s : State) (p : PortId) (kind tag : Byte) (take : State → Answer)
    (h : s.Hears p) (hr : (s.role p).permits kind = false) :
    s.actRequest p kind tag take = .next ((s.hunt p).answered p kind tag .roleRefused) := by
  obtain ⟨hu, hd, hs⟩ := h
  rw [State.actRequest, State.actFrame_of_heard _ _ _ hu hd]
  simp only [Fin.getElem_fin] at hs
  simp [State.takeRequest, hs, hr, State.answered]

end Sys2Proof.Machine
end

