-- ==== Sys2Proof/Laws/Units.lean ====
section
/-! SUPPORT. What the smaller operations of the blocks can do: timers, operands that name a slot or a kind, the section
table, the active list, the auxiliary table and its orders, the image, the handling of an event that routes no action,
the save that a RESET abandons, and the cut of a reply into parts. -/
namespace Sys2Proof.Machine

/-! ## Time -/

/-- A running timer has one millisecond less to run, and any other stays as it is. -/
theorem Timer.tick_later (x : Timer) :
    (∀ n, x = .running n → x.tick = .running (n - 1)) ∧ (x.isRunning = false → x.tick = x) := by
  cases x <;> simp [Timer.tick, Timer.isRunning]

/-! ## Operands -/

/-- A slot byte up to 11 names its slot (R124, R127). -/
theorem slotOf_eq (slot : Byte) (i : Slot) (h : i.val = slot.toNat) : slotOf slot = some i := by
  have := i.isLt
  simp [slotOf, ← h]

/-- A slot byte above 11 names no record. -/
theorem Sequencer.named_above (a : Sequencer) (slot : Byte) (h : 11 < slot.toNat) : a.named slot = none := by
  simp [Sequencer.named, slotOf]
  intro
  omega

/-- A slot byte names the record its slot holds, or none. -/
theorem Sequencer.named_eq (a : Sequencer) (slot : Byte) (i : Slot) (h : i.val = slot.toNat) :
    a.named slot = (a.table[i]).map fun r => (i, r) := by
  cases hr : a.table[i] <;>
  · simp only [Fin.getElem_fin] at hr
    simp [Sequencer.named, slotOf_eq _ _ h, hr]

/-- A kind byte 1..16 names its event kind (R149). -/
theorem EventKind.ofNumber_index (k : EventKind) (b : Byte) (h : k.index.val + 1 = b.toNat) :
    EventKind.ofNumber b.toNat = some k := by
  rw [← h]
  cases k <;> rfl

/-- A kind byte of 0 or above 16 names none. -/
theorem EventKind.ofNumber_none (b : Byte) (h : b = 0 ∨ 16 < b.toNat) : EventKind.ofNumber b.toNat = none := by
  rcases h with rfl | h
  · rfl
  · simp [EventKind.ofNumber, EventKind.list]
    omega

/-! ## The section table -/

/-- Fields within their ranges pass every check of R58 while the table has room. -/
theorem SectionUnit.checkEntry_ranged (u : SectionUnit) (f : SectionFields) (h : f.ranged = true)
    (room : u.table.length < 32) : u.checkEntry f = none := by
  simp only [SectionFields.ranged, decide_eq_true_eq] at h
  obtain ⟨_, _, _, _, _, h6⟩ := h
  have : f.override.toNat = 0 ∨ 100 ≤ f.override.toNat ∧ f.override.toNat ≤ 5000 := by
    rcases h6 with h | h
    · exact .inl (by rw [h]; rfl)
    · exact .inr h
  unfold SectionUnit.checkEntry
  repeat' split
  all_goals first | rfl | omega

/-- An insertion adds one entry at most. -/
theorem insertSection_length (e : SectionEntry) (l : List SectionEntry) :
    (insertSection e l).length ≤ l.length + 1 := by
  induction l with
  | nil => simp [insertSection]
  | cons x l ih => simp only [insertSection]; split <;> [simp; (split <;> simp; omega)]

/-- After an insertion the id inserted reads as the entry, and every other id as before. -/
theorem insertSection_find (e : SectionEntry) (l : List SectionEntry) (id : Nat) :
    (insertSection e l).find? (fun x => x.id = id) = if e.id = id then some e else l.find? (fun x => x.id = id) := by
  induction l with
  | nil => simp [insertSection, List.find?_cons]; split <;> simp_all
  | cons x l ih =>
    simp only [insertSection]
    split
    · simp [List.find?_cons]; split <;> simp_all
    · split
      · next h => simp [List.find?_cons, ← h]; by_cases hh : e.id = id <;> simp [hh]
      · next h =>
        simp only [List.find?_cons, ih]
        by_cases hh : e.id = id
        · have : x.id ≠ id := fun hx => h (hh.trans hx.symm)
          simp [hh, this]
        · simp [hh]

/-! ## The active list -/

/-- With no number twice, an entry is found by its number (R39, R44). -/
theorem find_by_number (l : List AlarmEntry) (hn : (l.map AlarmEntry.number).Nodup) (e : AlarmEntry) (he : e ∈ l) :
    l.find? (fun x => x.number = e.number) = some e := by
  induction l with
  | nil => simp at he
  | cons x l ih =>
    simp only [List.map_cons, List.nodup_cons] at hn
    rcases List.mem_cons.1 he with rfl | he
    · simp
    · have : x.number ≠ e.number := fun hx => hn.1 (hx ▸ List.mem_map_of_mem he)
      simp [this, ih hn.2 he]

/-! ## The auxiliary table and its orders -/

/-- A record put in the place of one that is as much on or off leaves the orders as they were (R136). -/
theorem Sequencer.put_orders (a : Sequencer) (i : Slot) (r : AuxRecord)
    (h : (a.table[i]).elim false AuxRecord.isOn = r.isOn) : (a.put i r).orders = a.orders := by
  simp only [Sequencer.orders, Sequencer.put]
  ext j hj
  simp only [Vector.getElem_ofFn, Fin.getElem_fin, Vector.getElem_set]
  by_cases e : i.val = j
  · subst e
    simp only [if_true, ← h, Fin.getElem_fin]
    cases a.table[i.val] <;> rfl
  · simp [e]

@[simp] theorem Sequencer.setQueue_orders (a : Sequencer) (q : List Slot) : (a.setQueue q).orders = a.orders := rfl

@[simp] theorem Sequencer.join_orders (a : Sequencer) (i : Slot) : (a.join i).orders = a.orders := by
  unfold Sequencer.join; split <;> rfl

@[simp] theorem Sequencer.leave_orders (a : Sequencer) (i : Slot) : (a.leave i).orders = a.orders := rfl

@[simp] theorem Sequencer.leave_table (a : Sequencer) (i : Slot) : (a.leave i).table = a.table := rfl

/-- A change of the sequencer that leaves the orders as they were queues no notice (R136). -/
theorem State.setAux_same_orders (s : State) (a : Sequencer) (h : a.orders = s.aux.orders) :
    s.setAux a = { s with aux := a } := by
  simp [State.setAux, h]

/-! ## The image and the events -/

/-- The sum of some bytes, taken modulo 65536 byte by byte, is their sum modulo 65536 (R162). -/
theorem checksumOf_eq (l : List Byte) : checksumOf l = BitVec.ofNat 16 (l.map BitVec.toNat).sum := by
  have step : ∀ (l : List Byte) (x : BitVec 16),
      l.foldl (fun n b => n + b.setWidth 16) x = x + BitVec.ofNat 16 (l.map BitVec.toNat).sum := by
    intro l
    induction l with
    | nil => simp
    | cons b l ih =>
      intro x
      simp only [List.foldl_cons, ih, List.map_cons, List.sum_cons, BitVec.ofNat_add, BitVec.add_assoc,
        BitVec.ofNat_toNat]
  simpa [checksumOf] using step l 0

/-- An image reads as erased exactly where all its bytes and both of its checksum's do (R162). -/
theorem Image.readsErased_iff (g : Image) (c : BitVec 16) :
    g.readsErased c = true ↔ c = 0xFFFF ∧ ∀ b ∈ Config.imageBytes g, b = 0xFF := by
  simp [Image.readsErased, erasedByte, and_comm]

/-- A memory that reads as erased throughout is BLANK, and the defaults are loaded (R162). -/
theorem NvMemory.judge_blank (n : NvMemory) (h : n.Blank) : n.judge = (.blank, .defaults) := by
  rcases h with rfl | ⟨g, c, rfl, h⟩
  · rfl
  · simp [NvMemory.judge, (g.readsErased_iff c).2 h]

/-- A memory that holds a valid image is VALID, and the image is loaded (R162). -/
theorem NvMemory.judge_valid (n : NvMemory) (g : Image) (h : n.Holds g) : n.judge = (.valid, g) := by
  obtain ⟨blank, rfl, range⟩ := h
  have erased : g.readsErased g.checksum = false := by
    rw [Bool.eq_false_iff, ne_eq, Image.readsErased_iff]
    intro h
    exact blank (.inr ⟨g, _, rfl, by rw [← checksumOf_eq]; exact h⟩)
  rw [← checksumOf_eq]
  show (if g.readsErased g.checksum then _ else if g.checksum == g.checksum && g.inRange then _ else _) = _
  simp [erased, range]

/-- A memory that is neither blank nor a valid image is CORRUPT, and the defaults are loaded (R162). -/
theorem NvMemory.judge_corrupt (n : NvMemory) (hb : ¬n.Blank) (hv : ¬∃ g, n.Holds g) :
    n.judge = (.corrupt, .defaults) := by
  cases n with
  | erased => exact absurd (.inl rfl) hb
  | torn => rfl
  | written g c =>
    have erased : g.readsErased c = false := by
      rw [Bool.eq_false_iff, ne_eq, Image.readsErased_iff]
      exact fun h => hb (.inr ⟨g, c, rfl, h⟩)
    have invalid : (c == g.checksum && g.inRange) = false := by
      rw [Bool.eq_false_iff, ne_eq, Bool.and_eq_true, beq_iff_eq]
      rintro ⟨rfl, range⟩
      exact hv ⟨g, hb, by rw [← checksumOf_eq]; rfl, range⟩
    simp [NvMemory.judge, erased, invalid]

/-- The class A findings rest on the settings of section 5.6, the battery's, the monitor's and the roles alone (R159). -/
theorem State.findingsA_congr (s t : State) (h1 : s.allot.line = t.allot.line) (h2 : s.allot.battery = t.allot.battery)
    (h3 : s.contact.settings = t.contact.settings) (h4 : ∀ p, s.role p = t.role p) : s.findingsA = t.findingsA := by
  simp only [State.findingsA, State.portsOf, h1, h2, h3, h4]

/-- An event of a kind without a routable action is latched and notified, and does nothing else (R149, R152). -/
theorem State.handleEvent_plain (s : State) (e : Event) (h : e.kind.action = none) :
    s.handleEvent e =
      (s.latchEvent e).queueTo (fun p => (s.router.routing[e.kind.index]).mask.getLsbD p) (e.notice false) := by
  simp only [State.handleEvent, h, ite_self]

/-! ## A save abandoned, and a reply in parts -/

section
variable (s : State)
@[simp] theorem State.abandonSave_meas : s.abandonSave.meas = s.meas := by simp only [State.abandonSave]; split <;> rfl
@[simp] theorem State.abandonSave_contact : s.abandonSave.contact = s.contact := by simp only [State.abandonSave]; split <;> rfl
@[simp] theorem State.abandonSave_alarm : s.abandonSave.alarm = s.alarm := by simp only [State.abandonSave]; split <;> rfl
@[simp] theorem State.abandonSave_sections : s.abandonSave.sections = s.sections := by simp only [State.abandonSave]; split <;> rfl
@[simp] theorem State.abandonSave_allot : s.abandonSave.allot = s.allot := by simp only [State.abandonSave]; split <;> rfl
@[simp] theorem State.abandonSave_aux : s.abandonSave.aux = s.aux := by simp only [State.abandonSave]; split <;> rfl
@[simp] theorem State.abandonSave_router : s.abandonSave.router = s.router := by simp only [State.abandonSave]; split <;> rfl
@[simp] theorem State.abandonSave_ports : s.abandonSave.ports = s.ports := by simp only [State.abandonSave]; split <;> rfl
@[simp] theorem State.abandonSave_power : s.abandonSave.power = s.power := by simp only [State.abandonSave]; split <;> rfl
@[simp] theorem State.abandonSave_pending : s.abandonSave.pending = s.pending := by simp only [State.abandonSave]; split <;> rfl
end

/-- Once a save is abandoned none is in flight, the image is corrupt where one was, and nothing has changed where none was
(R163, R166). -/
theorem State.abandonSave_store (s : State) :
    s.abandonSave.store.save = none ∧ (s.store.save = none → s.abandonSave = s) ∧
      (s.store.save.isSome = true →
        s.abandonSave.store = { s.store with save := none, imageState := .corrupt, nv := .torn }) := by
  cases h : s.store.save <;> simp [State.abandonSave, h]

/-- The cut of a content gives one slice per part (R173). -/
@[simp] theorem cutParts_length (free : Nat → Nat) (n : Nat) (bytes : List Byte) :
    (cutParts free n bytes).length = n := by
  induction n generalizing bytes <;> simp [cutParts, *]

/-- No part holds more than a frame does (R171). -/
theorem cutParts_fit (free : Nat → Nat) (n : Nat) (bytes : List Byte) :
    ∀ part ∈ cutParts free n bytes, part.length ≤ 56 := by
  induction n generalizing bytes with
  | zero => simp [cutParts]
  | succ n ih =>
    intro part hp
    simp only [cutParts, List.mem_cons] at hp
    rcases hp with rfl | hp
    · simp only [List.length_take, frameRoom]; omega
    · exact ih _ _ hp

/-- The parts joined are the content, as far as the parts can hold it: nothing is lost between two of them (R173). -/
theorem cutParts_flatten (free : Nat → Nat) (n : Nat) (bytes : List Byte) :
    (cutParts free n bytes).flatten = bytes.take (56 * n) := by
  induction n generalizing bytes with
  | zero => simp [cutParts]
  | succ n ih =>
    simp only [cutParts, List.flatten_cons, ih]
    set k := min frameRoom (max (bytes.length - frameRoom * n) (free n)) with hk
    have h1 : k ≤ 56 := by simp only [hk, frameRoom]; omega
    have h2 : bytes.length - 56 * n ≤ k ∨ k = 56 := by simp only [hk, frameRoom]; omega
    rw [List.take_drop]
    apply List.ext_getElem?
    intro i
    by_cases hi : i < (bytes.take k).length
    · rw [List.getElem?_append_left hi]
      simp only [List.length_take] at hi
      simp only [List.getElem?_take]
      rw [if_pos (by omega), if_pos (by omega)]
    · rw [List.getElem?_append_right (by omega)]
      simp only [List.length_take] at hi ⊢
      simp only [List.getElem?_drop, List.getElem?_take]
      by_cases hl : i < bytes.length
      · have e : k + (i - min k bytes.length) = i := by omega
        rw [e]
        rcases h2 with h2 | h2
        · rw [if_pos (by omega), if_pos (by omega)]
        · have : k + 56 * n = 56 * (n + 1) := by omega
          rw [this]
      · have : bytes[k + (i - min k bytes.length)]? = none := List.getElem?_eq_none (by omega)
        rw [this, List.getElem?_eq_none (by omega : bytes.length ≤ i)]
        split <;> split <;> rfl

end Sys2Proof.Machine
end

