-- ==== Sys2Proof/Laws/Startup.lean ====
section
/-! SUPPORT. What start-up leaves (R167, R168): the one lemma that the statements about the ends of resets rest on. -/
namespace Sys2Proof.Machine

/-- What stands once start-up has entered the first mode and the transmitters have chosen, `g` being what the memory gave
and `faults` the fault table before the first mode was chosen (R167, R168). -/
def State.StartedFrom (u s : State) (g : Image) (faults : Vector FaultEntry 16) : Prop :=
  u.meas = { Measurement.afterReset g with inFlight := some g.sweepPeriod } ∧
    u.contact = .afterReset g ∧ u.sections = .afterReset g ∧ u.aux = .afterReset g ∧
    u.allot = { AllotmentUnit.afterReset g u.router.mode with frameTimer := .running g.line.tF } ∧
    u.alarm = s.alarm.afterReset s.power.cause g.policy ∧ u.router.routing = g.routing ∧ u.router.faults = faults ∧
    u.router.mode = (if u.router.anyStopping then .halt
      else if u.store.autoRun = true ∧ s.power.cause ≠ .link ∧ u.findingsA = [] then .run
      else .setup) ∧
    u.store = ⟨s.store.nv, s.store.nv.judge.1, none, s.power.cause, g.autoRun⟩ ∧
    u.power = { s.power with retention := true } ∧ u.pending = s.pending ∧
    ∀ p : PortId, (u.ports[p]).inForce = g.ports[p] ∧ (u.ports[p]).written = g.ports[p] ∧
      (u.ports[p]).receiver = .hunting ∧ (u.ports[p]).slot = none ∧ (u.ports[p]).counts = .zero

/-- Entering the first mode, from what loading and the image's report have left. -/
theorem State.enterFirstMode_started (s r : State) (hm : r.meas = s.load.meas) (hc : r.contact = s.load.contact)
    (hs : r.sections = s.load.sections) (hx : r.aux = s.load.aux) (ha : r.allot = s.load.allot)
    (hl : r.alarm = s.load.alarm) (ht : r.store = s.load.store) (hw : r.power = s.load.power)
    (hq : r.pending = s.load.pending) (hr : r.router.routing = s.load.router.routing)
    (hp : ∀ p : PortId, (r.ports[p]).inForce = (s.load.ports[p]).inForce ∧
      (r.ports[p]).written = (s.load.ports[p]).written ∧ (r.ports[p]).receiver = .hunting ∧
      (r.ports[p]).slot = none ∧ (r.ports[p]).counts = .zero) :
    (r.enterFirstMode r.firstMode).beginWaiting.StartedFrom s s.store.nv.judge.2 r.router.faults := by
  set u := (r.enterFirstMode r.firstMode).beginWaiting with hu
  set g := s.store.nv.judge.2 with hg
  have role : ∀ p, u.role p = r.role p := by
    intro p
    simp only [hu, State.role, State.enterFirstMode, State.notify, Fin.getElem_fin, State.beginWaiting_port,
      Port.beginWaiting_inForce, State.queueTo_port]
    split <;> split <;> rfl
  refine ⟨?_, hc, hs, hx, ?_, hl, hr, rfl, ?_, ht, hw, hq, ?_⟩
  · show ({ r.meas with inFlight := some r.meas.period } : Measurement) = _
    rw [hm]; rfl
  · show ({ r.allot with record := .afterReset r.firstMode, frameTimer := .running r.allot.line.tF } : AllotmentUnit) = _
    rw [ha]; rfl
  · show r.firstMode = _
    rw [State.findingsA_congr u r rfl rfl rfl role]
    have cause : r.store.resetCause = s.power.cause := by rw [ht]; rfl
    simp only [State.firstMode, cause]
    have stopping : u.router.anyStopping = r.router.anyStopping := rfl
    have store : u.store = r.store := rfl
    rw [stopping, store]
    simp [and_assoc]
  · intro p
    obtain ⟨a1, a2, a3, a4, a5⟩ := hp p
    simp only [Fin.getElem_fin] at a1 a2 a3 a4 a5
    have loaded : s.load.ports[p.val] = .afterReset g.ports[p] := by simp [State.load, hg]
    rw [loaded] at a1 a2
    have written : ∀ port : Port, port.beginWaiting.written = port.written := by
      intro port
      rcases port.beginWaiting_cases with h | ⟨_, _, h⟩ | ⟨_, _, _, _, _, _, h⟩ <;> rw [h]
    simp only [hu, State.enterFirstMode, State.notify, Fin.getElem_fin, State.beginWaiting_port, Port.beginWaiting_inForce,
      Port.beginWaiting_slot, Port.beginWaiting_counts, Port.beginWaiting_receiver, State.queueTo_port, written]
    simp only [← a3, ← a4, ← a5]
    split <;> split <;> simp_all [Port.afterReset]

/-- Start-up from a memory that is not corrupt reports nothing and keeps the fault table as the cause has it (R167). -/
theorem State.startUp_started (s : State) (h : s.store.nv.judge.1 ≠ .corrupt) :
    s.startUp.beginWaiting.StartedFrom s s.store.nv.judge.2
      (s.router.afterReset s.power.cause s.store.nv.judge.2.routing).faults := by
  have : s.load.reportImage = s.load := by simp [State.reportImage, State.load, h]
  simp only [State.startUp, this]
  exact State.enterFirstMode_started s s.load rfl rfl rfl rfl rfl rfl rfl rfl rfl rfl
    (by intro p; simp [State.load, Port.afterReset])

/-- Start-up from a corrupt memory raises CONFIG_CORRUPT, whose latch is STOPPING, and so enters HALT; the occurrence is
counted and every other entry of the fault table is as the cause leaves it (R167, R168). -/
theorem State.startUp_corrupt (s : State) (h : s.store.nv.judge.1 = .corrupt) :
    let before := (s.router.afterReset s.power.cause s.store.nv.judge.2.routing).faults
    ∃ f : FaultEntry, s.startUp.beginWaiting.StartedFrom s s.store.nv.judge.2 (before.set 14 f) ∧
      f.latch = .stopping ∧ f.count = satSucc 65535 (before[14]).count ∧ s.startUp.beginWaiting.router.mode = .halt := by
  intro before
  let e : Event := ⟨.configCorrupt, .stopping, .absent⟩
  have report : s.load.reportImage = s.load.handleEvent e := by simp [State.reportImage, State.load, h, e]
  have handled : s.load.handleEvent e =
      ({ s.load with router := { s.load.router with
          faults := before.set 14 ((before[14]).record e s.load.allot.frame) } } :
        State).queueTo (fun p => (s.load.router.routing[14]).mask.getLsbD p) (e.notice false) := by
    rw [State.handleEvent_plain _ _ rfl]
    have hm : s.load.router.mode = .setup := rfl
    simp [State.latchEvent, EventKind.index, hm, e]
    rfl
  have started := State.enterFirstMode_started s (s.load.handleEvent e)
    (by rw [handled]; rfl) (by rw [handled]; rfl) (by rw [handled]; rfl) (by rw [handled]; rfl) (by rw [handled]; rfl)
    (by rw [handled]; rfl) (by rw [handled]; rfl) (by rw [handled]; rfl) (by rw [handled]; rfl) (by rw [handled]; rfl)
    (by
      intro p
      rw [handled]
      simp only [Fin.getElem_fin, State.queueTo_port]
      have loaded : s.load.ports[p.val] = .afterReset s.store.nv.judge.2.ports[p] := by simp [State.load]
      split <;> simp [loaded, Port.afterReset])
  have faults : (s.load.handleEvent e).router.faults = before.set 14 ((before[14]).record e s.load.allot.frame) := by
    rw [handled]
    rfl
  have latch : ((before[14]).record e s.load.allot.frame).latch = .stopping := by
    simp only [FaultEntry.record, EventClass.latch, e]
    cases (before[14]).latch <;> rfl
  rw [faults] at started
  refine ⟨_, by simpa only [State.startUp, report] using started, latch, rfl, ?_⟩
  obtain ⟨_, _, _, _, _, _, _, table, mode, _⟩ := started
  have stopping : ((s.load.handleEvent e).enterFirstMode (s.load.handleEvent e).firstMode).beginWaiting.router.anyStopping
      = true := by
    simp only [Router.anyStopping, List.any_eq_true, Vector.mem_toList_iff, beq_iff_eq]
    exact ⟨_, Vector.getElem_mem (by decide : 14 < 16), by rw [table]; simpa using latch⟩
  simp only [State.startUp, report]
  rw [mode, stopping]
  rfl

end Sys2Proof.Machine
end

