-- ==== Sys2Proof/Tests/Slice0.lean ====
section
/-! SUPPORT. Tests on fixed values: the checks of WellFormed, the worked figures of the manual, and for every statement
with hypotheses a state and operands that meet them. Every expected figure is the manual's or computed by hand from its
rules; the comment names the place. -/
namespace Sys2Proof.Tests

open Sys2Proof.Machine

/-! ## States to test on -/

/-- The state a command leaves; no command of this block stops. -/
def after (i : Instr) (s : State) : State :=
  match exec i s with
  | .next t => t
  | _ => s

/-- The reply code in a port's reply slot. -/
def code (s : State) (p : PortId) : Option ReplyCode := (s.ports[p]).slot.map fun r => r.reply.code

/-- The reset state in another mode. -/
def inMode (m : Mode) : State := { State.reset with router := { State.reset.router with mode := m } }

/-- The sections of the worked sequences (section 4.8). -/
def sec12 : SectionEntry := ⟨12, 600, 400, true, none⟩
def sec17 : SectionEntry := ⟨17, 700, 350, true, some 900⟩
def sec23 : SectionEntry := ⟨23, 450, 0, false, none⟩

/-- The configured parts of the vehicle of section 9.7. -/
def compressor : AuxConfig := ⟨.essential, .continuous, 40, 110, 800, 30, 60, none, true⟩
def converter : AuxConfig := ⟨.essential, .continuous, 5, 5, 10, 0, 0, none, true⟩
def saloonHeater : AuxConfig := ⟨.comfort, .continuous, 30, 45, 200, 120, 30, none, true⟩
def cabHeater : AuxConfig := ⟨.comfort, .continuous, 20, 25, 100, 120, 20, none, true⟩
def defroster : AuxConfig := ⟨.comfort, .timed, 20, 25, 100, 0, 10, some 600, false⟩

/-- A record that is off. -/
def off (c : AuxConfig) : AuxRecord := ⟨c, .idle, false, .stopped, .stopped, .stopped, .stopped, none, false, none⟩

/-- A record that runs. -/
def running (c : AuxConfig) (stamp : Nat) (onTimer : Timer) : AuxRecord :=
  ⟨c, .running, true, .stopped, onTimer, .stopped, .stopped, some stamp, false, none⟩

/-- A pole on the wire. -/
def onWire : PoleRecord := ⟨.onWire, 0, .stopped, none⟩

/-- The record in force in frame 48210 (section 5.7.1): a traction total of 430. -/
def record48210 : Record :=
  { Record.afterReset .run with
    frame := 48210, lineAvailable := true, bLine := 600, bBat := 250, aEssLine := 45, aCprot := 20, aTrLine := 430,
    aRgAux := 65, aRg := 65, hLine := 105, hBat := 250, flags := ⟨false, false, false, false⟩ }

/-- The vehicle of sections 5.7.1 and 9.7 in RUN, on the wire in section 12, at the end of frame 48210. -/
def climbing : State :=
  { State.reset with
    router := { State.reset.router with mode := .run }
    contact := { State.reset.contact with
      monitors := State.reset.contact.monitors.map fun m => { m with state := .clear }
      poles := ⟨onWire, onWire⟩, contact := .contact, settleSweeps := 8 }
    sections := { State.reset.sections with table := [sec12, sec17, sec23], current := some 12 }
    allot := { State.reset.allot with
      batteryAvailable := true, frame := 48210, acc := ⟨5404, 4170, 6407, 0, 10⟩
      demand := some ⟨.motor, 500, 500, 0, false⟩, record := record48210 }
    aux := { State.reset.aux with
      table := #v[some (running compressor 1 .expired), some (running converter 2 .expired), none,
        some (running saloonHeater 3 .expired), some (running saloonHeater 4 .expired),
        some (running cabHeater 5 (.running 60000)), none, none, none, none, none, none] } }

/-- Codes of a sweep at given VL and positive lateral codes, everything else at rest. -/
def codes (vl lateral : RawCode) : Vector RawCode 8 := #v[vl, 2048, lateral, 2000, 2048, 2000, 2967, 2048]

/-! ## Well-formedness -/

theorem test_unknown_request_with_a_named_kind_is_refused :
    (Instr.unknownRequest 0 0 0x10).wellFormed = false ∧ (Instr.unknownRequest 0 0 0x40).wellFormed = true := by decide

theorem test_section_write_of_no_or_five_entries_is_refused :
    (Instr.sectionWrite 0 0 []).wellFormed = false ∧
      (Instr.sectionWrite 0 0 (List.replicate 5 ⟨1, 0, 0, 0, 0⟩)).wellFormed = false ∧
      (Instr.sectionWrite 0 0 (List.replicate 4 ⟨1, 0, 0, 0, 0⟩)).wellFormed = true := by decide

/-! ## Frames (chapter 12) -/

/-- The frame of READ_ALLOTMENT with tag 7 (section 12.2). -/
theorem test_frame_of_read_allotment :
    (bodyOf (.readAllotment 1 7)).map (fun x => frameOf x.2) = some [0xA5, 0x02, 0x01, 0x07, 0xF5] := by decide

/-- DEMAND MOTOR 500 by hand: 500 = 0x01F4, least significant byte first (R181). -/
theorem test_body_of_demand :
    readBody 1 [0x10, 0x09, 0x00, 0xF4, 0x01] = .request (.demand 1 9 0 500) ∧
      readBody 1 [0x10, 0x09, 0x00, 0xF4] = .badLength 0x10 0x09 ∧ readBody 1 [0x40, 0x09] = .unknown 0x40 0x09 := by
  decide

/-- SET_ITEM of item 20 to 260 and SECTION_SET of 17, by hand (R180, R181). -/
theorem test_bodies_of_cab_requests :
    readBody 0 [0x20, 0x01, 0x14, 0x00, 0x04, 0x01] = .request (.setItem 0 1 20 260) ∧
      readBody 0 [0x25, 0x02, 0x11, 0x00] = .request (.sectionSet 0 2 17) ∧
      Item.ofNumber 20 = some (.numeric .vLoss) ∧ Item.ofNumber 45 = none := by decide

/-- An ALLOTMENT frame of 61 bytes takes 671 bits at even parity, and a DEMAND reply of 7 bytes 77 (section 12.9). -/
theorem test_frame_lengths :
    (Notice.allotment record48210).frameBytes.length = 61 ∧ frameBits .even 61 = 671 ∧
      (frameOf (ReplySlot.header ⟨⟨0x10, 7, .ok, .none⟩, 1, 0⟩)).length = 7 ∧ frameBits .even 7 = 77 := by decide

/-- The header of a MODE notice and of a DEMAND's reply in one part, by hand (R173, R181). -/
theorem test_headers :
    (Notice.mode .setup none .startUp).header = [0x66, 0] ∧ (Notice.poleOrder .lower).header = [0x63, 0] ∧
      ReplySlot.header ⟨⟨0x10, 7, .ok, .none⟩, 1, 0⟩ = [0x90, 7, 0, 0x01] ∧
      ReplySlot.header ⟨⟨0x06, 7, .noSuch, .none⟩, 3, 2⟩ = [0x86, 7, ReplyCode.noSuch.value, 0x23] := by decide

/-- POLL with no notice, READ_ALARMS' count alone and an empty reply fit one frame (R173). -/
theorem test_short_replies_take_one_part :
    Reply.parts ⟨0x0B, 1, .ok, .poll none 3⟩ = 1 ∧ Reply.parts ⟨0x03, 1, .noSuch, .alarms 9 none⟩ = 1 ∧
      Reply.parts ⟨0x31, 1, .ok, .none⟩ = 1 := ⟨rfl, rfl, rfl⟩

/-- Sixty bytes in two parts, the first as short and as long as it may be, by hand (R173). -/
theorem test_cut_of_sixty_bytes :
    let bytes := List.replicate 60 (7 : Byte)
    (cutParts (fun _ => 0) 2 bytes).map List.length = [4, 56] ∧
      (cutParts (fun _ => 99) 2 bytes).map List.length = [56, 4] ∧
      (cutParts (fun _ => 20) 2 bytes).map List.length = [20, 40] := by decide

/-- The characters of 0x07, three ones, at each parity, and inverted; an even-parity character with one level changed
(R170, R171). -/
theorem test_characters :
    let set (parity : Parity) (polarity : Polarity) : PortSettings := ⟨.b115200, parity, polarity, .full, .cab⟩
    let o := false
    let l := true
    characterLevels (set .none .normal) 0x07 = [o, l, l, l, o, o, o, o, o, l] ∧
      characterLevels (set .even .normal) 0x07 = [o, l, l, l, o, o, o, o, o, l, l] ∧
      characterLevels (set .odd .inverted) 0x07 = [l, o, o, o, l, l, l, l, l, l, o] ∧
      readCharacter (set .even .normal) [o, l, l, l, o, o, o, o, l, l, l] = some (0x87, true) := by decide

/-- A complete frame, byte by byte, reaches its block (R171, R172). -/
theorem test_bytes_of_a_demand :
    (match receive 1 (frameOf [0x10, 0x09, 0x00, 0xF4, 0x01]) State.reset with
      | .next t => t.allot.demand
      | _ => none) = some ⟨.motor, 500, 500, 0, false⟩ := by decide

/-! ## Measurement (chapter 1) -/

/-- The worked conversions of section 1.2.1. -/
theorem test_worked_conversions :
    (defaultCalibration[1]).convert 2867 = 320 ∧ (defaultCalibration[1]).convert 1229 = -320 ∧
      (defaultCalibration[0]).convert 2212 = 540 ∧ (defaultCalibration[6]).convert 2967 = 652 ∧
      (defaultCalibration[2]).convert 2048 = 0 := by decide

/-- The clamping examples of section 1.2.1, by R4. -/
theorem test_clamping_examples :
    (deliverConverted (Calibration.convert ⟨0, 1010⟩ 4060) channelRange[0]).value = 1000 ∧
      (deliverConverted (Calibration.convert ⟨0, 1010⟩ 4060) channelRange[0]).atLimit = true ∧
      (deliverConverted (Calibration.convert ⟨20, 1000⟩ 5) channelRange[0]).value = 0 ∧
      (deliverConverted (Calibration.convert ⟨20, 1000⟩ 5) channelRange[0]).atLimit = true ∧
      (deliverConverted ((defaultCalibration[1]).convert 4094) channelRange[1]).value = 799 ∧
      (deliverConverted ((defaultCalibration[3]).convert 4094) channelRange[3]).value = 900 ∧
      (deliverConverted ((defaultCalibration[3]).convert 4094) channelRange[3]).atLimit = false := by decide

/-- The rows of sweeps 1031, 1032, 1050 and 1082 of section 1.4.1. -/
theorem test_worked_rail_fault :
    let take (c : ChannelState) (raw : RawCode) := c.takeCode defaultCalibration[6] channelRange[6] raw
    (take ⟨652, false, false, 30⟩ 4095).channel = ⟨652, false, false, 31⟩ ∧
      (take ⟨652, false, false, 31⟩ 4095).channel = ⟨652, false, true, 0⟩ ∧
      (take ⟨652, false, false, 31⟩ 4095).faulted = true ∧
      (take ⟨652, false, true, 9⟩ 0).channel = ⟨652, false, true, 0⟩ ∧
      (take ⟨652, false, true, 31⟩ 2958).channel = ⟨650, false, false, 0⟩ ∧
      (take ⟨652, false, true, 31⟩ 2958).value = 650 := by decide

/-- A sweep of the reset state: the number, the values of section 1.2.1, and the accumulators (R7, R71). -/
theorem test_sweep_of_the_reset_state :
    let t := after (.sweepCompletion #v[2212, 2867, 2048, 1000, 2048, 1000, 2967, 2048]) .reset
    t.meas.latest = some ⟨0, #v[540, 320, 0, 220, 0, 220, 652, 0], Vector.replicate 8 false⟩ ∧ t.meas.number = 1 ∧
      t.allot.acc = ⟨540, 320, 652, 0, 1⟩ := by decide

/-! ## Contact, alarms and sections (chapters 2 to 4) -/

/-- The climbing vehicle, three sweeps into a dead line with section 17 announced (sections 2.7.1 and 4.8.1). -/
def atInsulator : State :=
  { climbing with
    contact := { climbing.contact with
      monitors := { climbing.contact.monitors with loss := { climbing.contact.monitors.loss with filter := 3 } } }
    sections := { climbing.sections with expectation := some ⟨17, .running 1200, false⟩ } }

/-- Sweep 5004 of section 2.7.1. -/
theorem test_insulator_entered :
    let t := after (.sweepCompletion (codes 8 2048)) atInsulator
    t.contact.contact = .gap ∧ t.contact.gapTimer = .running 900 ∧ t.contact.monitors.loss.detected = true ∧
      t.sections.expectation = some ⟨17, .running 1200, true⟩ ∧ (t.router.faults[4]).latch = .none ∧
      t.allot.record.bLine = 0 ∧ t.allot.cutMark = true := by decide

/-- Sweep 5063 of section 2.7.1: the fourth live sweep of the gap. -/
theorem test_insulator_left :
    let s := after (.sweepCompletion (codes 8 2048)) atInsulator
    let late : State := { s with contact := { s.contact with
      monitors := { s.contact.monitors with loss := { s.contact.monitors.loss with filter := 3 } } } }
    let t := after (.sweepCompletion (codes 2500 2048)) late
    t.contact.contact = .contact ∧ t.contact.gapTimer = .stopped ∧ t.sections.current = some 17 ∧
      t.sections.expectation = none ∧ t.allot.reclose = .running 60 := by decide

/-- SECTION_AHEAD(23) inside the insulator (section 4.8.1). -/
theorem test_announcement_inside_the_gap_is_busy :
    code (after (.sectionAhead 0 1 23) (after (.sweepCompletion (codes 8 2048)) atInsulator)) 0 = some .busy := by decide

/-- Sweep 9001 of section 2.7.2: lateral 362 and VL 598. -/
theorem test_dewirement :
    let t := after (.sweepCompletion (codes 2449 3284)) climbing
    t.contact.poles.pos.state = .dewired ∧ t.contact.poles.pos.lastClass = some .lateral ∧
      t.contact.poles.neg.state = .lowering ∧ t.contact.contact = .dropped ∧ t.contact.loweringTimer = .running 6000 ∧
      (t.alarm.active.map fun e => (e.number, e.key, e.cls, e.state)) =
        [(1, .poleDrop .pos, some .lateral, .activeUnack)] ∧
      (t.alarm.active.map fun e => e.snapshot) = [⟨598, 0, some 362, some 439, 430, .contact, some 12⟩] ∧
      (t.router.faults[0]).lastDetail = .pole .pos := by decide

/-- The same entry acknowledged: OK, then ALREADY, and RAISE is refused with INTERLOCK (section 3.8). -/
theorem test_acknowledgment :
    let s := after (.sweepCompletion (codes 2449 3284)) climbing
    let t := after (.ackAlarm 0 1 1) s
    code t 0 = some .ok ∧ (t.alarm.active.map fun e => (e.state, e.ackPort)) = [(.activeAck, some 0)] ∧
      code (after (.raise 0 1) s) 0 = some .interlock ∧ code (after (.ackAlarm 0 1 9) s) 0 = some .noSuch := by decide

/-- A bridged insulator (section 4.8.3): the window expires with gap-seen clear, into section 23. -/
theorem test_bridged_insulator :
    let s : State := { climbing with
      sections := { climbing.sections with expectation := some ⟨23, .running 0, false⟩ }
      allot := { climbing.allot with record := { record48210 with aRgLine := 210, aRg := 275 } } }
    let t := after .windowExpiry s
    t.sections.current = some 23 ∧ t.sections.expectation = none ∧ t.allot.record.bLine = 450 ∧
      t.allot.record.aRgLine = 0 ∧ (t.router.faults[5]).lastDetail = .sectionId (some 23) := by decide

/-- The write of section 4.8.5: 31 entries, then 17 rewritten, 40 inserted, 41 stopped by the full table. -/
theorem test_write_stopped_by_a_full_table :
    let table := [sec12, sec17, sec23] ++ (List.range 28).map fun k => ⟨100 + k, 500, 300, true, none⟩
    let s : State := { climbing with sections := { climbing.sections with table := table, current := some 17 } }
    let t := after (.sectionWrite 0 1
      [⟨17, 650, 350, 1, 900⟩, ⟨40, 500, 200, 1, 0⟩, ⟨41, 500, 200, 1, 0⟩, ⟨42, 500, 200, 1, 0⟩]) s
    code t 0 = some .abortedAt ∧ t.sections.table.length = 32 ∧ t.sections.find 17 = some ⟨17, 650, 350, true, some 900⟩ ∧
      t.sections.find 40 = some ⟨40, 500, 200, true, none⟩ ∧ t.sections.find 41 = none := by decide

/-! ## Allotment (chapters 5 to 7) -/

/-- The frame on a climb (section 5.7.1): record 48211, SAG with detail 12, and the first shortfall. -/
theorem test_frame_on_a_climb :
    let t := after .frameExpiry climbing
    let r := t.allot.record
    (r.frame = 48211 ∧ r.factors.kV = 716 ∧ r.bLine = 419 ∧ r.bBat = 250 ∧ r.aEssLine = 45 ∧ r.aCprot = 20 ∧
      r.aTrLine = 354 ∧ r.aTrBat = 116 ∧ r.aCfree = 0 ∧ r.aCh = 0 ∧ r.hLine = 0 ∧ r.hBat = 134 ∧ r.shortfall = 60) ∧
      r.flags = ⟨false, true, false, false⟩ ∧ (t.router.faults[6]).lastDetail = .sectionId (some 12) ∧
      t.aux.shortfallCount = 1 ∧ t.allot.acc = ⟨0, 0, 0, 0, 0⟩ := by decide

/-- The cut of section 5.7.2 on that record. -/
theorem test_cut_at_the_insulator :
    let r := (after .frameExpiry climbing).allot.record.cutNow
    r.bLine = 0 ∧ r.aEssLine = 0 ∧ r.aEssBat = 45 ∧ r.aTrLine = 0 ∧ r.aTrBat = 205 ∧ r.hBat = 0 ∧ r.flags.cut = true := by
  decide

/-- A lower feeder limit in mid-frame (section 5.7.3). -/
theorem test_lower_feeder_limit :
    let r := { record48210 with bLine := 560, aEssLine := 45, aCprot := 20, aCfree := 60, aTrLine := 400, aCh := 35, hLine := 0 }
    let q := r.fitLimits ⟨450, 400, true⟩
    q.bLine = 450 ∧ q.aEssLine = 45 ∧ q.aCprot = 20 ∧ q.aCfree = 0 ∧ q.aTrLine = 385 ∧ q.aCh = 0 ∧ q.hLine = 0 := by decide

/-- The braking case (section 6.8.1). -/
theorem test_braking_case :
    let u : AllotmentUnit := { climbing.allot with demand := some ⟨.brake, 380, 380, 1, false⟩ }
    let r := u.compute
      { frame := 50121, means := ⟨900, 0, 710, 0⟩, mode := .run, contact := .contact, limits := ⟨600, 400, true⟩
        totals := ⟨45, 20, 0⟩, overvolt := false, stale := false }
    r.factors = ⟨1024, 1024, 512, 768⟩ ∧ r.hLine = 535 ∧ r.hBat = 250 ∧ r.aRgLine = 200 ∧ r.aRgBat = 90 ∧ r.aRgAux = 65 ∧
      r.aRg = 355 := by decide

/-- The ages of section 7.7.1: 300 at age 5, 280 at 6, 0 at 20; silent at 50. -/
theorem test_drive_falls_silent :
    let d (age effective : Nat) : DemandRecord := ⟨.motor, 300, effective, age, false⟩
    (d 4 300).grow 5 20 = d 5 300 ∧ (d 5 300).grow 5 20 = d 6 280 ∧ (d 19 20).grow 5 20 = d 20 0 ∧
      (d 50 0).fallsSilent 50 = true ∧ (d 49 0).fallsSilent 50 = false := by decide

/-- The expiry that ends frame 60003 of section 7.7.2: the third overdraw frame, G 419 and a tolerance of 30. -/
theorem test_overdraw_is_raised_at_the_third_frame :
    let u : AllotmentUnit := { climbing.allot with
      record := { record48210 with aEssLine := 45, aCprot := 20, aTrLine := 354 }, overdraw := 2 }
    (u.superviseDraw 476 (some 12)).1.overdraw = 3 ∧ (u.superviseDraw 476 (some 12)).1.warn = true ∧
      (u.superviseDraw 476 (some 12)).2 = [⟨.overdraw, .advisory, .sectionId (some 12)⟩] ∧
      (u.superviseDraw 449 (some 12)).1.overdraw = 0 := by decide

/-! ## Auxiliaries (chapters 8 and 9) -/

/-- The three records of section 8.9.1. -/
def threeIdle : State :=
  { climbing with aux := { climbing.aux with
      table := #v[some (off compressor), none, none, some (off saloonHeater), none, none, none, some (off defroster),
        none, none, none, none] } }

/-- The three starts of section 8.9.1 at one port, its replies taken away between them. -/
theorem test_three_starts :
    let free (s : State) : State := s.setPort 2 State.reset.ports[2]
    let s := after (.auxStart 2 2 7) (free (after (.auxStart 2 1 3) threeIdle))
    s.aux.queue = [3, 7] ∧ (after (.auxStart 2 3 0) (free s)).aux.queue = [0, 3, 7] := by decide

/-- The publications of section 8.9.1 at H_line 80 and at H_line 130. -/
theorem test_head_is_tested_against_the_spare :
    let queued (c : AuxConfig) : AuxRecord := { off c with state := .queued, want := true }
    let a : Sequencer := { threeIdle.aux with
      queue := [0, 3, 7]
      table := ((threeIdle.aux.table.set 0 (some (queued compressor))).set 3 (some (queued saloonHeater))).set 7
        (some (queued defroster)) }
    let at_ (h : Nat) := a.testHead { record48210 with hLine := h, hBat := 0 } .contact
    (at_ 80).queue = [0, 3, 7] ∧ (at_ 80).starting = none ∧ (at_ 130).queue = [3, 7] ∧ (at_ 130).starting = some 0 ∧
      (at_ 130).totals = ⟨110, 0, 0⟩ := by decide

/-- The third publication of section 9.7.1: A4 and A3 are shed, A5 is passed over and takes stamp 3. -/
theorem test_third_shortfall_sheds_two_heaters :
    let b := ({ climbing.aux with shortfallCount := 2 } : Sequencer).countShortfall 60
    b.shortfallCount = 0 ∧ b.totals = ⟨45, 20, 0⟩ ∧ (b.table[3]).map AuxRecord.state = some .shed ∧
      (b.table[4]).map AuxRecord.offInhibit = some (.running 30000) ∧ (b.table[5]).bind AuxRecord.stamp = some 3 := by
  decide

/-! ## Router and store (chapters 10 and 11) -/

/-- Steps 1 to 3 and 5 of section 10.8. -/
theorem test_persistent_overdraw_and_the_way_back :
    let s := climbing.handleEvent ⟨.overdrawPersist, .stopping, .sectionId (some 12)⟩
    let t := after (.mode 0 5 0) s
    s.router.mode = .halt ∧ (s.router.faults[9]).latch = .stopping ∧ s.allot.record.noneButEssential ∧
      code (after (.mode 0 2 1) s) 0 = some .modeRefused ∧ code (after (.clearFault 0 3 10) s) 0 = some .modeRefused ∧
      code t 0 = some .ok ∧ t.router.mode = .setup := by decide

/-- The plan check of section 10.8.1: V_floor 620 against V_knee 600, no ROOF port, an empty section table. -/
theorem test_plan_check_after_a_threshold_write :
    let s := after (.setItem 0 1 57 620) State.reset
    let u : State := s.setPort 3 { s.ports[3] with inForce := .defaultsWith .monitor }
    code s 0 = some .ok ∧ u.findingsA = [⟨.a, 1, none⟩] ∧ u.findingsB = [⟨.b, 12, none⟩] ∧
      u.findingsC = [⟨.c, 15, none⟩] := by decide

/-- The save cut short of section 11.6.1: the count of kind 15 goes from 2 to 3 and the part enters HALT. -/
theorem test_save_cut_short_by_a_supply_dip :
    let s : State := { State.reset with router := { State.reset.router with
      faults := State.reset.router.faults.set 14 ⟨.none, 2, 0, .absent⟩ } }
    let t := after .supplyStableExpiry (after .supplyLow (after (.save 0 1) s))
    (after (.save 0 1) s).store.imageState = .writing ∧ t.store.imageState = .corrupt ∧ t.store.resetCause = .supplyLow ∧
      t.router.faults[14] = ⟨.stopping, 3, 0, .absent⟩ ∧ t.router.mode = .halt := by decide

/-- A part with a save in flight whose port 0 is idle. -/
def saving : State := after (.transmitComplete 0) (after (.save 0 1) (after (.transmitComplete 0) State.reset))

/-- A RESET taken during a save abandons it at once, a completion then finds none, and the reset finds the image corrupt
(R163, R166). -/
theorem test_reset_abandons_a_save :
    let s := after (.reset 0 2) saving
    let t := after (.transmitComplete 0) (after (.saveCompletion true) s)
    saving.store.save.isSome = true ∧ code s 0 = some .ok ∧ s.store.save = none ∧ s.store.nv = .torn ∧
      t.store.imageState = .corrupt ∧ t.router.mode = .halt ∧ t.store.resetCause = .link := by decide

/-- Sums of bytes by hand: 0x01 + 0xFF + 0x10, and 258 bytes of 255, 65790, modulo 65536 (R162). -/
theorem test_checksums :
    checksumOf [0x01, 0xFF, 0x10] = 0x0110 ∧ checksumOf (List.replicate 258 0xFF) = 254 :=
  ⟨by decide, by rw [checksumOf_eq, List.map_replicate, List.sum_replicate]; rfl⟩

/-- A pin reset after a stopping fault (section 11.6.2): the latch is kept and the part enters HALT. -/
theorem test_pin_reset_after_a_stopping_fault :
    let halted := climbing.handleEvent ⟨.overdrawPersist, .stopping, .sectionId (some 12)⟩
    let t := after .pinResetRelease (after .pinResetAssert halted)
    t.router.mode = .halt ∧ t.store.resetCause = .pin ∧ t.router.faults[9] = halted.router.faults[9] := by decide

/-- Auto-run with a valid plan: RUN after a pin reset, SETUP after a LINK reset, HALT with a STOPPING latch (R168). -/
theorem test_first_modes :
    let s (cause : ResetCause) : State := { climbing with store := { climbing.store with autoRun := true, resetCause := cause } }
    (s .pin).firstMode = .run ∧ (s .link).firstMode = .setup ∧
      ((s .pin).handleEvent ⟨.overdrawPersist, .stopping, .absent⟩).firstMode = .halt := by decide

/-! ## Witnesses: a state and operands that meet the hypotheses of each statement, clause by clause -/

/-- A part held in reset by RESETN and by the supply, its supply wait running out. -/
def held (supply pin : Bool) : State :=
  { State.reset with power :=
      { State.reset.power with supplyHold := supply, pinHold := pin, stableWait := if supply then .running 0 else .stopped } }

/-- The reset state with a change to one port. -/
def withPort (p : PortId) (f : Port → Port) : State := State.reset.setPort p (f State.reset.ports[p])

/-- A reply of one part, or of more, none of it sent. -/
def waitingReply (parts : Nat) : ReplySlot := ⟨⟨0x01, 9, .ok, .none⟩, parts, 0⟩

/-- The accepted RESET's reply. -/
def resetReply : ReplySlot := ⟨⟨0x31, 9, .ok, .none⟩, 1, 0⟩

/-- An entry of the active list. -/
def entry (n : BitVec 16) (k : AlarmKey) (st : AlarmState) : AlarmEntry :=
  ⟨n, k, none, st, 0, ⟨0, 0, none, none, 0, .contact, none⟩, 0, none⟩

/-- The climbing vehicle with alarms on its list, in each of their states. -/
def alarmed : State :=
  { climbing with alarm := { climbing.alarm with
      active := [entry 65535 .lineLost .activeUnack, entry 0 .lowerStuck .activeAck,
        entry 7 (.raiseMiss .neg) .goneUnack]
      counter := 7 } }

theorem witness_idle_and_reset :
    State.reset.pending = [] ∧ (held false true).up = false ∧
      Instr.frameExpiry ∉ ([.powerOn, .supplyLow, .retentionLost, .supplyStableExpiry, .pinResetAssert,
        .pinResetRelease] : List Instr) ∧
      State.reset.power.pinHold = false ∧ (held true true).power.pinHold = true ∧
      (held true true).power.supplyHold = true ∧ (held true true).power.stableWait.isRunning = true := by decide

/-- Both ends of a reset, a blank memory, and settings in range and out of it. -/
theorem witness_start_up :
    ((held false true).power.pinHold = true ∧ (held false true).power.supplyHold = false) ∧
      ((held true false).power.supplyHold = true ∧ (held true false).power.stableWait.isRunning = true ∧
        (held true false).power.pinHold = false) ∧
      State.reset.store.nv = .erased ∧ Image.defaults.inRange = true ∧
      { Image.defaults with sweepPeriod := 9 }.inRange = false := by decide

theorem witness_blank_and_corrupt : NvMemory.erased.Blank ∧ ¬NvMemory.torn.Blank ∧ ∀ g, ¬NvMemory.torn.Holds g := by
  refine ⟨.inl rfl, fun h => ?_, fun g h => ?_⟩
  · rcases h with h | ⟨_, _, h, _⟩ <;> cases h
  · cases h.2.1

theorem witness_power_on_with_blank_image :
    State.reset.store.nv = .erased ∧ State.reset.power.pinHold = false ∧
      exec .powerOn State.reset = .next (after .powerOn State.reset) := ⟨by decide, by decide, rfl⟩

theorem witness_reset_during_save :
    let s := after (.save 0 3) State.reset
    let link := s.setPort 0 { s.ports[(0 : PortId)] with tx := some .replyPart, slot := some resetReply }
    (s.up = true ∧ s.SaveLaw ∧ s.store.save.isSome = true) ∧ (link.up = true ∧ link.SaveLaw ∧ link.store.save.isSome = true ∧
      (link.ports[(0 : PortId)]).tx = some .replyPart ∧ (link.ports[(0 : PortId)]).slot = some resetReply) ∧
    (exec .powerOn s = .next (after .powerOn s) ∧
      exec .supplyStableExpiry (after .powerOn s) = .next (after .supplyStableExpiry (after .powerOn s))) ∧
    (exec .supplyLow s = .next (after .supplyLow s) ∧
      exec .supplyStableExpiry (after .supplyLow s) = .next (after .supplyStableExpiry (after .supplyLow s))) ∧
    (exec .pinResetAssert s = .next (after .pinResetAssert s) ∧
      exec .pinResetRelease (after .pinResetAssert s) = .next (after .pinResetRelease (after .pinResetAssert s))) ∧
    exec (.transmitComplete 0) link = .next (after (.transmitComplete 0) link) :=
  ⟨by decide, by decide, ⟨rfl, rfl⟩, ⟨rfl, rfl⟩, ⟨rfl, rfl⟩, rfl⟩

theorem witness_reset_abandons_a_save :
    saving.up = true ∧ saving.SaveLaw ∧ saving.Hears 0 ∧ saving.role 0 = .cab ∧ saving.router.mode ≠ .run ∧
      (saving.ports[(0 : PortId)]).tx = none ∧ saving.store.save.isSome = true ∧
      exec (.reset 0 2) saving = .next (after (.reset 0 2) saving) ∧
      exec (.transmitComplete 0) (after (.reset 0 2) saving) =
        .next (after (.transmitComplete 0) (after (.reset 0 2) saving)) :=
  ⟨by decide, by decide, by decide, by decide, by decide, by decide, by decide, rfl, rfl⟩

theorem witness_link_reset :
    let s := withPort 0 fun q => { q with tx := some .replyPart, slot := some resetReply }
    s.up = true ∧ (s.ports[(0 : PortId)]).tx = some .replyPart ∧ (s.ports[(0 : PortId)]).slot = some resetReply ∧
      resetReply.parts ≤ resetReply.sent + 1 ∧ resetReply.reply.kind = 0x31 ∧ resetReply.reply.code = .ok ∧
      s.power.retention = true := by decide

/-- The shortest and the longest request frames. -/
theorem witness_encoded_request :
    (Instr.poll 3 255).wellFormed = true ∧ bodyOf (.poll 3 255) = some (3, [0x0B, 255]) ∧
      (Instr.sectionWrite 0 0 (List.replicate 4 ⟨4095, 1000, 800, 1, 5000⟩)).wellFormed = true ∧
      (bodyOf (.sectionWrite 0 0 (List.replicate 4 ⟨4095, 1000, 800, 1, 5000⟩))).map (fun x => x.2.length) = some 38 := by
  decide

/-- A body of two bytes and one of sixty, at a hunting receiver; a request, an unnamed kind and a bad length. -/
theorem witness_received_frame :
    [0x0B, 1].length = 2 ∧ (List.replicate 60 (0x40 : Byte)).length = 60 ∧ State.reset.up = true ∧ State.reset.SettledLaw ∧
      (∀ p : PortId, (State.reset.ports[p]).receiver = .hunting ∧ (State.reset.ports[p]).deaf = false ∧
        (State.reset.ports[p]).slot = none) ∧
      readBody 0 [0x0B, 1] = .request (.poll 0 1) ∧ readBody 0 (List.replicate 60 0x40) = .unknown 0x40 0x40 ∧
      readBody 0 [0x0B, 1, 0] = .badLength 0x0B 1 := by decide

/-- A deaf port; a receiver that hunts, waits for the length, for the body's last byte, and for the check byte. -/
theorem witness_receiver :
    let deaf := withPort 1 fun q => { q with inForce := { q.inForce with duplex := .half }, tx := some .replyPart }
    let inFrame (n : Option Nat) (body : List Byte) := withPort 1 fun q => { q with receiver := .inFrame n body 0 }
    State.reset.up = true ∧ (deaf.ports[(1 : PortId)]).deaf = true ∧ (State.reset.ports[(1 : PortId)]).deaf = false ∧
      (State.reset.ports[(1 : PortId)]).receiver = .hunting ∧
      ((inFrame none []).ports[(1 : PortId)]).receiver = .inFrame none [] 0 ∧
      ((inFrame (some 2) [1]).ports[(1 : PortId)]).receiver = .inFrame (some 2) [1] 0 ∧
      ((inFrame (some 2) [1, 7]).ports[(1 : PortId)]).receiver = .inFrame (some 2) [1, 7] 0 ∧
      (0xF4 : Byte) ≠ 255 - byteSum (BitVec.ofNat 8 2 :: [1, 7]) := by decide

/-- An occupied slot, a role that may not ask, a kind of no request, and a write of no entry. -/
theorem witness_frames_in_order :
    let full := withPort 1 fun q => { q with slot := some (waitingReply 1) }
    bodyOf (.save 1 2) = some (1, 0x30 :: 2 :: []) ∧ full.up = true ∧ (full.ports[(1 : PortId)]).deaf = false ∧
      (full.ports[(1 : PortId)]).slot.isSome = true ∧ State.reset.Hears 1 ∧ (Instr.save 1 2).wellFormed = true ∧
      (State.reset.role 1).permits 0x30 = false ∧ kindUnnamed 0x00 = true ∧ kindUnnamed 0x36 = true ∧
      0x01 ∈ requestKinds ∧ 0x35 ∈ requestKinds := by decide

/-- A notice ends; the first and the last part of a reply ends; and each choice an idle transmitter has. -/
theorem witness_transmission :
    let part (n : Nat) := withPort 0 fun q => { q with tx := some .replyPart, slot := some (waitingReply n) }
    State.reset.up = true ∧ (State.reset.ports[(0 : PortId)]).tx = some (.notice (.mode .setup none .startUp)) ∧
      ((part 2).ports[(0 : PortId)]).tx = some .replyPart ∧ ((part 2).ports[(0 : PortId)]).slot = some (waitingReply 2) ∧
      (waitingReply 2).sent + 1 < (waitingReply 2).parts ∧
      ((part 1).ports[(0 : PortId)]).slot = some (waitingReply 1) ∧ (waitingReply 1).parts ≤ (waitingReply 1).sent + 1 ∧
      ¬((waitingReply 1).reply.kind = 0x31 ∧ (waitingReply 1).reply.code = .ok) := by decide

/-- A notice of each sort and a reply's part being sent, and the settings of a character. -/
theorem witness_what_is_sent :
    let sends (x : Sending) := (withPort 0 fun q => { q with tx := some x, slot := some (waitingReply 1) }).ports[(0 : PortId)]
    (sends (.notice (.allotment record48210))).tx = some (.notice (.allotment record48210)) ∧
      (sends .replyPart).tx = some .replyPart ∧ (sends .replyPart).slot = some (waitingReply 1) ∧
      (sends .replyPart).slot = some ⟨(waitingReply 1).reply, 1, 0⟩ ∧
      ((withPort 0 fun q => { q with slot := some ⟨(waitingReply 1).reply, 15, 14⟩ }).ports[(0 : PortId)]).slot =
        some ⟨(waitingReply 1).reply, 15, 14⟩ ∧
      (State.reset.ports[(0 : PortId)]).inForce.polarity = .normal ∧
      (State.reset.ports[(0 : PortId)]).inForce.parity ≠ .none := by decide

theorem witness_transmitter_choice :
    let idle (d : Duplex) (q : List Notice) := withPort 2 fun x =>
      { x with tx := none, queue := q, inForce := { x.inForce with duplex := d } }
    ((idle .full []).ports[(2 : PortId)]).tx = none ∧ ((idle .full []).ports[(2 : PortId)]).slot = none ∧
      ((idle .full [.poleOrder .lower]).ports[(2 : PortId)]).inForce.duplex = .full ∧
      ((idle .full [.poleOrder .lower]).ports[(2 : PortId)]).queue = .poleOrder .lower :: [] ∧
      ((idle .half [.poleOrder .lower]).ports[(2 : PortId)]).inForce.duplex = .half ∧
      (Notice.poleOrder .raise).kind ∉ ([] : List Notice).map Notice.kind ∧
      (Notice.poleOrder .raise).kind = (Notice.poleOrder .lower).kind := by decide

/-- POLL at a HALF port with a notice and at a FULL one; PORT_STATUS of P3, of no port, and with each clear flag. -/
theorem witness_poll_and_port_status :
    let half := withPort 3 fun q =>
      { q with tx := none, queue := [.poleOrder .lower], inForce := { q.inForce with duplex := .half } }
    half.Hears 3 ∧ (half.ports[(3 : PortId)]).inForce.duplex = .half ∧
      (half.ports[(3 : PortId)]).queue = .poleOrder .lower :: [] ∧ State.reset.Hears 3 ∧
      (State.reset.ports[(3 : PortId)]).inForce.duplex = .full ∧ 3 < (4 : Byte).toNat ∧
      (3 : PortId).val = (3 : Byte).toNat ∧ 1 < (2 : Byte).toNat ∧ (1 : Byte).toNat ≤ 1 := by decide

/-- The laws hold on the climbing vehicle and its list, and a step is taken from it. -/
theorem witness_laws :
    (alarmed.NoticesLaw ∧ alarmed.SettledLaw ∧ alarmed.SendingLaw) ∧ (alarmed.ContactLaw ∧ alarmed.AlarmLaw ∧
      alarmed.PoleLaw .pos ∧ alarmed.PoleLaw .neg) ∧ (alarmed.allot.record.Sums ∧ alarmed.LineLaw ∧ alarmed.BatteryLaw) ∧
      alarmed.aux.Law ∧ (alarmed.ComfortLaw ∧ alarmed.RunLaw ∧ alarmed.SaveLaw) ∧
      step { alarmed with pending := [.frameExpiry] } = .next (after .frameExpiry alarmed) :=
  ⟨by decide, by decide, by decide, by decide, by decide, rfl⟩

theorem witness_laws_of_present_things :
    (after (.sweepCompletion (codes 2449 2048)) alarmed).meas.Law ∧ atInsulator.SectionLaw ∧ alarmed.aux.StampLaw ∧
      alarmed.RaiseLaw := by
  refine ⟨⟨by decide, ?_⟩, ⟨by decide, by decide, ?_, ?_⟩, ?_, by decide, by decide⟩
  · rintro set ⟨⟩; decide
  · rintro id ⟨⟩; decide
  · rintro e ⟨⟩; decide
  · intro i
    fin_cases i <;> rintro r ⟨⟩ <;> refine ⟨by decide, ?_⟩ <;> rintro n ⟨⟩ <;>
      refine ⟨by decide, by decide, ?_⟩ <;> intro j <;> fin_cases j <;> rintro q ⟨⟩ ⟨⟩ <;> rfl

/-- Reads at a port of each role, of the first entry and of none; of kinds 1 and 16, 0 and 17; of slots 11 and 12. -/
theorem witness_reads :
    (∀ p : PortId, alarmed.Hears p) ∧ alarmed.alarm.active[(0 : Byte).toNat]? = some (entry 65535 .lineLost .activeUnack) ∧
      alarmed.alarm.active.length ≤ (3 : Byte).toNat ∧ alarmed.sections.table[(2 : Byte).toNat]? = some sec23 ∧
      alarmed.alarm.history.length ≤ (0 : Byte).toNat ∧ EventKind.poleDrop.index.val + 1 = (1 : Byte).toNat ∧
      EventKind.userFault.index.val + 1 = (16 : Byte).toNat ∧ 16 < (17 : Byte).toNat ∧
      (11 : Slot).val = (11 : Byte).toNat ∧ 11 < (12 : Byte).toNat := by decide

/-- V_ovk, item 70, just outside both ends of 600..990 (section 6.7). -/
theorem test_values_beyond_a_range :
    let write (v : Half) : State := after (.setItem 0 1 70 v) (after (.transmitComplete 0) State.reset)
    (write 599).allot.battery.vOvk = 600 ∧ (write 991).allot.battery.vOvk = 990 ∧ code (write 991) 0 = some .clamped ∧
      (write 990).allot.battery.vOvk = 990 ∧ code (write 990) 0 = some .ok := by decide

/-- Item numbers at the ends of their groups, and numbers of none. -/
theorem witness_items :
    State.reset.Hears 2 ∧ (8 : Half).toNat = 1 + (7 : Channel).val ∧ (9 : Half).toNat = 9 + (0 : Channel).val ∧
      (89 : Half).toNat = 89 ∧ Item.ofNumber 0 = none ∧ Item.ofNumber 123 = none ∧
      Item.ofNumber 8 = some (.numeric (.offset 7)) ∧ Item.ofNumber 9 = some (.numeric (.gain 0)) ∧
      Item.ofNumber 119 = some (.role 3) ∧ Item.ofNumber 122 = some (.readOnly .saveInFlight) ∧
      State.reset.role 0 = .cab ∧ State.reset.role 1 ≠ .cab ∧ State.reset.router.mode = .setup ∧
      (NumericItem.iBatMax.inRun = true ∧ (inMode .run).router.mode = .run ∧ NumericItem.stowLevel.inRun = false) ∧
      (inMode .halt).Hears 0 ∧ (inMode .halt).router.mode = .halt := by decide

/-- A channel one sweep short of a fault, and a faulted one one sweep short of its recovery. -/
theorem witness_rails :
    let well : ChannelState := ⟨5, false, false, 0⟩
    let faulted : ChannelState := ⟨5, false, true, 0⟩
    ((channelRange[(0 : Channel)]).1 ≤ (channelRange[(0 : Channel)]).2 ∧ well.railCount = 0 ∧ well.fault = false ∧
      (List.replicate 31 (4095 : RawCode)).length ≤ 31 ∧ faulted.fault = true ∧ isRail 0 = true ∧ isRail 1 = false) ∧
      (∀ r ∈ List.replicate 31 (4095 : RawCode), isRail r = true) ∧
      (∀ r ∈ List.replicate 31 (4094 : RawCode), isRail r = false) :=
  ⟨by decide, fun _ h => List.eq_of_mem_replicate h ▸ by decide, fun _ h => List.eq_of_mem_replicate h ▸ by decide⟩

/-- A sweep in flight without a rail code, and CH0 at its thirty-second. -/
theorem witness_sweep :
    let s : State := { State.reset with meas := { State.reset.meas with
      channels := State.reset.meas.channels.set 0 ⟨0, false, false, 31⟩ } }
    State.reset.up = true ∧ State.reset.meas.inFlight = some 2 ∧ s.meas.inFlight.isSome = true ∧
      (∀ c : Channel, isRail (codes 2449 2048)[c] = false ∧ (State.reset.meas.channels[c]).fault = false) ∧
      (s.meas.channels[(0 : Channel)]).fault = false ∧ (s.meas.channels[(0 : Channel)]).railCount = 31 ∧
      isRail (codes 0 2048)[(0 : Channel)] = true := by decide

/-- The fourth sweep of a dead line unannounced, and the fourth above V_ov (R22, R31): what the conditions of a sweep's
statement lead to. -/
theorem witness_gap_and_overvolt :
    let late (x : Monitor) : Monitor := { x with filter := 3, decimation := 7 }
    let m := climbing.contact.monitors
    let s : State := { climbing with contact := { climbing.contact with monitors := { m with loss := late m.loss } } }
    let v : State := { climbing with contact := { climbing.contact with monitors := { m with overvolt := late m.overvolt } } }
    let t := after (.sweepCompletion (codes 8 2048)) { s with meas := { s.meas with inFlight := some 2 } }
    let u := after (.sweepCompletion (codes 4000 2048)) { v with meas := { v.meas with inFlight := some 2 } }
    t.contact.contact = .gap ∧ (t.router.faults[4]).lastDetail = .sectionId (some 12) ∧
      (u.router.faults[7]).lastDetail = .channel 0 ∧ u.allot.record.aRgLine = 0 := by decide

/-- The line comes back in LOST on the fourth clean sweep: the contact state is CONTACT, an unacknowledged LINE_LOST is
gone, and the CONTACT notice waits (R16, R30, R31, R43). -/
theorem test_line_comes_back :
    let lost : AlarmEntry := ⟨1, .lineLost, none, .activeUnack, 0, ⟨0, 0, none, none, 0, .gap, none⟩, 0, none⟩
    let m := climbing.contact.monitors
    let s : State := { climbing with
      meas := { climbing.meas with inFlight := some 2 }
      alarm := { climbing.alarm with active := [lost] }
      contact := { climbing.contact with
        contact := .lost, gapTimer := .expired
        monitors := { m with loss := { m.loss with state := .asserted, filter := 3, decimation := 7 } } } }
    let t := after (.sweepCompletion (codes 2449 2048)) s
    t.contact.contact = .contact ∧ (t.alarm.find .lineLost).map AlarmEntry.state = some .goneUnack ∧
      Notice.contact .contact ⟨.onWire, .onWire⟩ ⟨none, none⟩ ∈ (t.ports[(0 : PortId)]).queue := by decide

/-- The last LOWERING pole stows on its fourth sweep, and an acknowledged LOWER_STUCK leaves the list (R25, R28, R43). -/
theorem test_last_pole_stows :
    let stuck : AlarmEntry := ⟨1, .lowerStuck, none, .activeAck, 0, ⟨0, 0, none, none, 0, .offWire, none⟩, 0, some 0⟩
    let s : State := { State.reset with
      alarm := { State.reset.alarm with active := [stuck] }
      contact := { State.reset.contact with poles := ⟨⟨.stowed, 0, .stopped, none⟩, ⟨.lowering, 3, .stopped, none⟩⟩ } }
    let t := after (.sweepCompletion #v[1, 2048, 2048, 1, 2048, 1, 2967, 2048]) s
    t.contact.poles.neg.state = .stowed ∧ t.alarm.find .lowerStuck = none ∧ t.contact.settleSweeps = 1 := by decide

theorem witness_sweep_answers :
    exec (.sweepCompletion (codes 0 2048)) State.reset = .next (after (.sweepCompletion (codes 0 2048)) State.reset) := rfl

/-- Each state of a monitor, with its counts at the ends of their ranges. -/
theorem witness_monitors :
    let m (st : MonitorState) (settling filter : Nat) : Monitor := ⟨st, settling, 0, filter, false, some .high⟩
    let set : MonitorSetting := ⟨true, .filtered, 8⟩
    set.mode = .filtered ∧ 0 < set.decimation ∧ (m .clear 0 0).state = .clear ∧ (m .clear 0 0).filter = 0 ∧
      (m .clear 0 0).decimation = 0 ∧ 4 * set.decimation ≤ 32 ∧ (m .asserted 0 3).filter = 3 ∧
      (m .asserted 0 0).filter = 0 ∧ (m .asserted 0 0).decimation + 1 < set.decimation ∧
      set.decimation ≤ ({ m .asserted 0 3 with decimation := 7 } : Monitor).decimation + 1 ∧
      ({ m .clear 0 3 with decimation := 7 } : Monitor).filter = 3 ∧ (m .clear 0 2).filter < 3 ∧
      some ConditionClass.high = (m .asserted 0 3).cls ∧
      (some ConditionClass.low) ≠ (m .asserted 0 3).cls ∧ (m .settling 6 0).settling < 7 ∧
      (m .settling 7 0).settling = 7 ∧ (m .disabled 0 0).state = .disabled := by decide

/-- A pole record in each state that the tables name, with its stow count at 0 and at 3. -/
theorem witness_poles :
    let r (st : PoleState) (n : Nat) : PoleRecord := ⟨st, n, .stopped, none⟩
    (r .unknown 0).state = .unknown ∧ (r .stowed 3).state ≠ .unknown ∧
      decide ((31 : Int) ≤ (30 : Nat)) = ((r .stowed 3).state != .stowed) ∧ (r .stowed 3).stowCount = 3 ∧
      decide ((30 : Int) ≤ (30 : Nat)) = ((r .onWire 0).state != .stowed) ∧ (r .onWire 0).stowCount < 3 ∧
      decide ((31 : Int) ≤ (30 : Nat)) = ((r .lowering 0).state == .stowed) := by decide

/-- The climbing vehicle with its second pole still to seat. -/
def seating : State :=
  { climbing with contact := { climbing.contact with
      poles := ⟨onWire, ⟨.raising, 0, .running 0, none⟩⟩, contact := .offWire } }

theorem witness_seat_and_reclose :
    let s : State := { climbing with allot := { climbing.allot with reclose := .running 0 } }
    seating.up = true ∧ seating.ContactLaw ∧ (seating.contact.poles.get .neg).state = .raising ∧
      (seating.contact.poles.get .neg).seat.isRunning = true ∧ (seating.contact.poles.get .pos).state ≠ .raising ∧
      seating.contact.contact ≠ .contact ∧ (after (.seatTimerExpiry .neg) seating).contact.contact = .contact ∧
      s.up = true ∧ s.allot.reclose.isRunning = true := by decide

/-- A vehicle in a gap that runs out, with the routed action on and off. -/
theorem witness_gap_expiry :
    let s : State := { climbing with contact := { climbing.contact with
      contact := .gap, gapTimer := .running 0
      monitors := { climbing.contact.monitors with loss := { climbing.contact.monitors.loss with state := .asserted } } } }
    let t : State := { s with router := { s.router with routing := s.router.routing.set 2 ⟨1, true⟩ } }
    s.up = true ∧ s.contact.gapTimer.isRunning = true ∧ s.contact.contact = .gap ∧ s.contact.derive = .gap ∧
      s.alarm.find .lineLost = none ∧ (s.router.routing[(2 : Fin 16)]).action = false ∧
      (t.router.routing[(2 : Fin 16)]).action = true := by decide

/-- Poles being lowered, with LOWER_STUCK on the list and without. -/
theorem witness_lowering_expiry :
    let s (l : List AlarmEntry) : State := { climbing with
      contact := { climbing.contact with
        poles := ⟨⟨.lowering, 0, .stopped, none⟩, ⟨.lowering, 0, .stopped, none⟩⟩, contact := .offWire
        loweringTimer := .running 0 }
      alarm := { climbing.alarm with active := l } }
    (s []).up = true ∧ (s []).ContactLaw ∧ (s []).contact.loweringTimer.isRunning = true ∧
      (s []).alarm.find .lowerStuck = none ∧
      (s [entry 3 .lowerStuck .goneUnack]).alarm.find .lowerStuck = some (entry 3 .lowerStuck .goneUnack) := by decide

/-- LOWER with both poles on the wire; RAISE with both stowed, and not. -/
theorem witness_pole_orders :
    let stowed : State := { State.reset with contact := { State.reset.contact with
      poles := ⟨⟨.stowed, 0, .stopped, none⟩, ⟨.stowed, 0, .stopped, none⟩⟩ } }
    climbing.Hears 0 ∧ climbing.ContactLaw ∧ climbing.role 0 = .cab ∧ climbing.role 1 ≠ .cab ∧ climbing.role 3 = .roof ∧
      (after (.lower 0 1) climbing).contact.anyLowering = true ∧ climbing.contact.loweringTimer = .stopped ∧
      stowed.Hears 0 ∧ stowed.contact.poles.pos.state = .stowed ∧ stowed.contact.poles.neg.state = .stowed ∧
      stowed.alarm.active = [] ∧ climbing.contact.poles.pos.state ≠ .stowed := by decide

/-- A key without entry and one with, under each policy, with the history empty and full. -/
theorem witness_raises_and_ends :
    let full (policy : HistoryPolicy) : State := { alarmed with alarm := { alarmed.alarm with
      policy := policy, history := List.replicate 16 (entry 65535 .lineLost .activeUnack).copy } }
    alarmed.AlarmLaw ∧ alarmed.alarm.find (.poleDrop .pos) = none ∧ alarmed.alarm.history.length < 16 ∧
      alarmed.alarm.policy ≠ .off ∧ 16 ≤ (full .latest).alarm.history.length ∧ (full .first).alarm.policy = .first ∧
      (full .off).alarm.policy = .off ∧
      alarmed.alarm.find .lineLost = some (entry 65535 .lineLost .activeUnack) ∧
      alarmed.alarm.find .lowerStuck = some (entry 0 .lowerStuck .activeAck) ∧
      alarmed.alarm.find (.raiseMiss .neg) = some (entry 7 (.raiseMiss .neg) .goneUnack) ∧
      (full .latest).alarm.history = List.replicate 15 (entry 65535 .lineLost .activeUnack).copy ++
        (entry 65535 .lineLost .activeUnack).copy :: [] ∧
      (entry 65535 .lineLost .activeUnack).copy.number = (entry 65535 .lineLost .activeUnack).number ∧
      (AlarmKey.raiseMiss .neg).pole.isSome = true ∧ alarmed.role 3 = .roof ∧ alarmed.role 1 = .traction ∧
      (∀ x ∈ alarmed.alarm.active, x.number ≠ alarmed.alarm.counter + 1) := by decide

/-- Numbers of the three entries, at the ends of their range, and one of none. -/
theorem witness_acknowledgments :
    alarmed.Hears 0 ∧ alarmed.role 0 = .cab ∧ alarmed.role 3 ≠ .cab ∧ alarmed.AlarmLaw ∧
      entry 65535 .lineLost .activeUnack ∈ alarmed.alarm.active ∧ entry 0 .lowerStuck .activeAck ∈ alarmed.alarm.active ∧
      entry 7 (.raiseMiss .neg) .goneUnack ∈ alarmed.alarm.active ∧ (∀ e ∈ alarmed.alarm.active, e.number ≠ 8) := by decide

/-- The cab and another role in each mode; values at the ends of their ranges and beyond. -/
theorem witness_cab_requests :
    (∀ m : Mode, m = .setup ∨ m = .run ∨ m = .halt → (inMode m).Hears 0 ∧ (inMode m).role 0 = .cab ∧
      (inMode m).Hears 1 ∧ (inMode m).role 1 ≠ .cab) ∧
      2 < (3 : Byte).toNat ∧ (2 : Byte) = (match HistoryPolicy.off with | .latest => 0 | .first => 1 | .off => 2) ∧
      16 < (17 : Byte).toNat ∧ EventKind.userFault.index.val + 1 = (16 : Byte).toNat ∧ 15 < (16 : Byte).toNat ∧
      (15 : Byte).toNat ≤ 15 ∧ 99 < (100 : Byte).toNat ∧ (99 : Byte).toNat ≤ 99 := by
  refine ⟨?_, by decide⟩
  intro m hm
  obtain rfl | rfl | rfl := hm <;> decide

/-- Entries good and bad, at the ends of their fields' ranges; a table that the first entry fills, and the next finds
full. -/
theorem witness_section_write :
    let good : List SectionFields := [⟨1, 0, 0, 0, 0⟩, ⟨4095, 1000, 800, 1, 5000⟩]
    let table : List SectionEntry := (List.range 31).map fun k => ⟨100 + k, 500, 300, true, none⟩
    let s : State := { climbing with sections := { climbing.sections with table := table, current := none } }
    let first : SectionFields := ⟨40, 500, 200, 1, 0⟩
    let next : SectionFields := ⟨41, 500, 200, 1, 0⟩
    let filled := insertSection first.entry table
    (climbing.Hears 0 ∧ climbing.role 0 = .cab ∧ climbing.router.mode ≠ .halt ∧ (∀ x ∈ good, x.ranged = true) ∧
      (good.foldl (fun l f => insertSection f.entry l) climbing.sections.table).length ≤ 32) ∧
      ((SectionFields.mk 0 0 0 0 0).ranged = false ∧ (SectionFields.mk 4096 0 0 0 0).ranged = false ∧
        (SectionFields.mk 5 1001 0 0 0).ranged = false ∧ (SectionFields.mk 5 0 801 0 0).ranged = false ∧
        (SectionFields.mk 5 0 0 2 0).ranged = false ∧ (SectionFields.mk 5 0 0 0 99).ranged = false ∧
        (SectionFields.mk 5 0 0 0 5001).ranged = false ∧ (SectionFields.mk 5 0 0 0 100).ranged = true) ∧
      s.Hears 0 ∧ [first, next] = [first] ++ next :: [] ∧ first.ranged = true ∧ filled.length = 32 ∧
      (∀ x ∈ filled, x.id ≠ next.id.toNat) ∧ s.sections.current ≠ some first.id.toNat := by decide

/-- Ids of the table and of none; an expectation without its gap seen, with it, and none. -/
theorem witness_sections :
    let open_ (seen : Bool) : State := { climbing with sections := { climbing.sections with
      expectation := some ⟨17, .running 0, seen⟩ } }
    climbing.Hears 0 ∧ climbing.sections.find (17 : Half).toNat = some sec17 ∧ climbing.sections.find (0 : Half).toNat = none ∧
      climbing.sections.expectation = none ∧ (open_ false).Hears 0 ∧ (open_ true).up = true ∧
      (open_ false).sections.expectation = some ⟨17, .running 0, false⟩ ∧
      (open_ true).sections.expectation = some ⟨17, .running 0, true⟩ ∧
      (open_ false).sections.find 17 = some sec17 := by decide

/-- Frames of one and of many sets, the two kinds of mode, and the line with and without its delay. -/
theorem witness_frame :
    let i (m : Mode) (c : ContactState) : FrameInputs :=
      { frame := 1, means := ⟨540, 417, 640, 0⟩, mode := m, contact := c, limits := ⟨600, 400, true⟩, totals := ⟨45, 20, 60⟩
        overvolt := false, stale := false }
    0 < climbing.allot.acc.n ∧ (i .run .contact).mode = .run ∧ (i .halt .gap).mode ≠ .run ∧
      (i .run .contact).contact = .contact ∧ climbing.allot.reclose.isRunning = false ∧ climbing.up = true ∧
      climbing.allot.frameTimer.isRunning = true ∧ climbing.allot.sag = .full ∧
      (after .frameExpiry climbing).allot.record.factors.kV < 1024 := by decide

theorem witness_frame_answers : exec .frameExpiry climbing = .next (after .frameExpiry climbing) := rfl

/-- A demand that ages to its silence, a draw within and above the grant, and the run's two ends. -/
theorem witness_supervision :
    let u (overdraw : Nat) (warn cut : Bool) : AllotmentUnit :=
      { climbing.allot with overdraw := overdraw, warn := warn, cutMark := cut }
    climbing.allot.demand = some ⟨.motor, 500, 500, 0, false⟩ ∧ (u 0 false false).cutMark = false ∧
      (u 0 false false).afterCut = false ∧ (495 : Int) ≤ ((45 + 20 + 0 + 0 + 430 : Nat) : Int) + 30 ∧
      (u 0 false false).demandSettings.odWarn ≤ min (2 + 1) 65535 ∧
      (u 19 true false).demandSettings.odStop ≤ min (19 + 1) 65535 ∧ (u 19 true false).persist = false ∧
      (u 0 false true).cutMark = true := by decide

/-- A feeder limit above, at and below the line budget; a limit of 0, under which every share is lowered; a battery
limit that takes of both shares. -/
theorem witness_modifications :
    let r : Record := { record48210 with
      aCfree := 60, aCres := 20, aCh := 10, aRgAux := 125, aRg := 125, hLine := 35, aEssBat := 5, aTrBat := 40, hBat := 205 }
    let full : Record := { r with aRgAux := 130, aRg := 130 }
    let q := full.fitLimits ⟨0, 0, false⟩
    let b := full.fitBattery 4
    record48210.Sums ∧ full.Sums ∧ 4 < full.bBat ∧ full.bLine ≤ (Limits.mk 600 0 true).iFeed ∧
      (Limits.mk 599 400 false).iFeed < full.bLine ∧ (Limits.mk 599 400 false).permitted = false ∧
      (q.aCfree < full.aCfree ∧ q.aTrLine < full.aTrLine ∧ q.aCres < full.aCres ∧ q.aCprot < full.aCprot ∧
        q.aEssLine < full.aEssLine) ∧ b.aEssBat < full.aEssBat := by decide

/-- A demand of the greatest magnitude and of one above; inhibit set and clear; the battery in each state. -/
theorem witness_demand_inhibit_battery :
    let set : State := { climbing with allot := { climbing.allot with inhibit := some .overdraw } }
    climbing.Hears 1 ∧ climbing.role 1 = .traction ∧ climbing.role 0 ≠ .traction ∧ ¬(800 < (800 : Half).toNat) ∧
      800 < (801 : Half).toNat ∧ 2 < (3 : Byte).toNat ∧ climbing.Hears 0 ∧ climbing.allot.inhibit = none ∧ set.Hears 0 ∧
      set.allot.inhibit ≠ none ∧ climbing.allot.batteryAvailable = true ∧ State.reset.allot.batteryAvailable = false ∧
      1 < (2 : Byte).toNat := by decide

/-- The totals of the vehicle of section 9.7, 45, 20 and 60, and its orders (R79, R136). -/
theorem test_totals_and_orders :
    climbing.aux.totals = ⟨45, 20, 60⟩ ∧ climbing.aux.orders =
      #v[true, true, false, true, true, true, false, false, false, false, false, false] := by decide

/-- A record in each state at slot 11, the last; a slot without one, and slot 12. -/
theorem witness_aux_requests :
    let at11 (st : AuxState) : State := { climbing with aux := { climbing.aux with
      table := climbing.aux.table.set 11 (some { off defroster with state := st }) } }
    climbing.Hears 2 ∧ climbing.role 2 = .auxiliary ∧ climbing.role 0 ≠ .auxiliary ∧ (11 : Slot).val = (11 : Byte).toNat ∧
      11 < (12 : Byte).toNat ∧ climbing.aux.table[(11 : Slot)] = none ∧
      ((at11 .idle).aux.table[(11 : Slot)]).map AuxRecord.state = some .idle ∧
      ((at11 .shed).aux.table[(11 : Slot)]).map AuxRecord.state = some .shed ∧
      ((at11 .queued).aux.table[(11 : Slot)]).map AuxRecord.state = some .queued := by decide

/-- A stop with an off-time and one without, and with a want that stays. -/
theorem witness_stops :
    climbing.aux.table[(0 : Slot)] = some (running compressor 1 .expired) ∧ 0 < (running compressor 1 .expired).config.tOffMin ∧
      climbing.aux.table[(1 : Slot)] = some (running converter 2 .expired) ∧
      (running converter 2 .expired).config.tOffMin = 0 ∧
      (true && (!true || (running converter 2 .expired).config.autoRestart)) = true := by decide

/-- A part whose fields are in range and one whose tier is not, on an absent, an IDLE and a RUNNING record. -/
theorem witness_aux_write :
    climbing.Hears 0 ∧ climbing.role 0 = .cab ∧ climbing.router.mode ≠ .halt ∧ (AuxFields.mk 1 1 200 400 5000 600 600 3600 1).tier.toNat ≤ 1 ∧
      1 < (AuxFields.mk 2 1 200 400 5000 600 600 3600 1).tier.toNat ∧ climbing.aux.table[(11 : Slot)] = none ∧
      threeIdle.aux.table[(7 : Slot)] = some (off defroster) ∧ (off defroster).state = .idle ∧
      (running compressor 1 .expired).state ≠ .idle := by decide

/-- A record with each of its timers run out, and a queue whose head has stalled. -/
theorem witness_aux_timers :
    let r : AuxRecord := { off defroster with state := .starting, inrush := .running 0 }
    let q : AuxRecord := { off defroster with state := .queued, want := true }
    let s : State := { climbing with aux := { climbing.aux with
      table := climbing.aux.table.set 7 (some q), queue := [7], stall := .running 0 } }
    climbing.up = true ∧ r.state = .starting ∧ r.inrush.isRunning = true ∧ (off defroster).onTimer.isRunning = false ∧
      (running cabHeater 5 (.running 60000)).onTimer.isRunning = true ∧ s.up = true ∧ s.aux.stall.isRunning = true ∧
      s.aux.queue = 7 :: [] ∧ s.aux.table[(7 : Slot)] = some q ∧ q.stalled = false := by decide

/-- A queue that an ESSENTIAL and a COMFORT record join, and that its head, its last and its only record leave. -/
theorem witness_queue :
    let a : Sequencer := { climbing.aux with queue := [0, 3] }
    a.queue = [0] ++ [3] ∧ (1 : Slot) ∉ a.queue ∧ (4 : Slot) ∉ a.queue ∧ (∀ j ∈ [(0 : Slot)], a.isEssential j = true) ∧
      (∀ j ∈ [(3 : Slot)], a.isEssential j = false) ∧ a.isEssential 1 = true ∧ a.isEssential 4 = false ∧
      a.queue = [] ++ 0 :: [3] ∧ a.queue = [0] ++ 3 :: [] ∧ (0 : Slot) ∉ [(3 : Slot)] := by decide

/-- A head that fits exactly and one that does not, and a shortfall one short of its count and at it. -/
theorem witness_publication :
    let q : AuxRecord := { off saloonHeater with state := .queued, want := true }
    let a : Sequencer := { climbing.aux with queue := [7], table := climbing.aux.table.set 7 (some q) }
    a.starting = none ∧ a.queue = 7 :: [] ∧ a.table[(7 : Slot)] = some q ∧ q.config.iIn ≤ 45 ∧ ¬(q.config.iIn ≤ 44) ∧
      a.shortfallCount + 1 < a.settings.shedFrames ∧ 0 < 60 ∧
      ({ a with shortfallCount := 2 } : Sequencer).settings.shedFrames ≤ 2 + 1 := by decide

/-- Each latch of a fault entry, and a routed action that is on. -/
theorem witness_events_and_latches :
    let with_ (l : Latch) : State := { State.reset with router := { State.reset.router with
      faults := State.reset.router.faults.set 15 ⟨l, 65535, 0, .user 99⟩ } }
    (with_ .stopping).Hears 0 ∧ ((with_ .stopping).router.faults[(15 : Fin 16)]).latch = .stopping ∧
      ((with_ .advisory).router.faults[(15 : Fin 16)]).latch = .advisory ∧
      (State.reset.router.faults[(15 : Fin 16)]).latch = .none ∧
      ((climbing.router.routing[(0 : Fin 16)]).action && EventKind.poleDrop.action.isSome) = true ∧
      (climbing.router.routing[(0 : Fin 16)]).mask.getLsbD 3 = true := by decide

/-- A state that may enter RUN, and one kept from it by each condition of R158; a save in flight. -/
theorem witness_mode_and_save :
    let saving : State := { State.reset with store := { State.reset.store with save := some ⟨.defaults, 250⟩ } }
    State.reset.router.mode = .setup ∧ State.reset.store.save = none ∧ State.reset.findingsA = [] ∧
      climbing.router.mode ≠ .setup ∧ climbing.Hears 0 ∧
      (State.reset.router.faults[(9 : Fin 16)]).latch ≠ .stopping ∧ saving.Hears 0 ∧ saving.store.save.isSome = true ∧
      saving.up = true ∧ (after (.setItem 0 1 57 620) State.reset).findingsA ≠ [] := by decide

/-- The numbers of the items that hold no plain quantity, at the ends of their groups, and values at the ends of what
they take and beyond. -/
theorem witness_items_by_name :
    State.reset.Hears 0 ∧ State.reset.role 0 = .cab ∧ State.reset.router.mode = .setup ∧ (120 : Half).toNat = 120 ∧
      (28 : Half).toNat = 28 + 0 ∧ (31 : Half).toNat = 28 + 3 ∧ (32 : Half).toNat = 32 + 0 ∧ (35 : Half).toNat = 32 + 3 ∧
      (36 : Half).toNat = 36 + 0 ∧ (39 : Half).toNat = 36 + 3 ∧ (100 : Half).toNat = 100 + (0 : PortId).val ∧
      (119 : Half).toNat = 116 + (3 : PortId).val ∧ (1 : Half).toNat ≤ 1 ∧ 1 < (2 : Half).toNat ∧ 4 < (5 : Half).toNat ∧
      (State.reset.contact.settings.monitors.get .overvolt).enable = decide ((1 : Half).toNat = 1) ∧
      (State.reset.contact.settings.monitors.get .overvolt).enable ≠ decide ((0 : Half).toNat = 1) := by decide

/-- The part made of the model's own step and reset state. -/
theorem witness_core : Sys2Proof.core.reset = State.reset ∧ Sys2Proof.core.step State.reset = .next State.reset.tick :=
  ⟨rfl, rfl⟩

end Sys2Proof.Tests
end

namespace Sys2Proof.Machine

/-! ## The contact monitor's law on the monitor alone -/

/-- The contact state and the timers of the contact monitor stand as R26, R28, R30 and R31 call for: what
`State.ContactLaw` says of a part that is not in reset. -/
structure ContactUnit.Lawful (u : ContactUnit) : Prop where
  derived : u.contact = u.derive
  gapStopped : u.contact ≠ .gap → u.contact ≠ .lost → u.gapTimer = .stopped
  lostExpired : u.contact = .lost → u.gapTimer = .expired
  loweringStopped : u.anyLowering = false → u.loweringTimer = .stopped
  seatPos : u.SeatLaw .pos
  seatNeg : u.SeatLaw .neg

theorem State.contactLaw_iff (s : State) : s.ContactLaw ↔ (s.up = true → s.contact.Lawful) :=
  ⟨fun h up => let ⟨a, b, c, d, e, f⟩ := h up; ⟨a, b, c, d, e, f⟩,
    fun h up => let ⟨a, b, c, d, e, f⟩ := h up; ⟨a, b, c, d, e, f⟩⟩

/-! ## The derived contact state (R30) -/

/-- GAP and LOST are derived with both poles ON_WIRE and LOSS asserted, and the gap timer tells them apart (R30). -/
theorem ContactUnit.derive_without_line (u : ContactUnit) (h : u.derive = .gap ∨ u.derive = .lost) :
    u.poles.pos.state = .onWire ∧ u.poles.neg.state = .onWire ∧ u.monitors.loss.output = true ∧
      (u.derive = .lost ↔ u.gapTimer = .expired) := by
  simp only [ContactUnit.derive, PerPole.any, PerPole.all] at h ⊢
  grind

/-- With both poles ON_WIRE and LOSS asserted the line is lost: GAP, and LOST once the gap timer has expired (R30). -/
theorem ContactUnit.derive_of_loss (u : ContactUnit) (hpos : u.poles.pos.state = .onWire)
    (hneg : u.poles.neg.state = .onWire) (hloss : u.monitors.loss.output = true) :
    u.derive = if u.gapTimer = .expired then .lost else .gap := by
  simp [ContactUnit.derive, PerPole.any, PerPole.all, hpos, hneg, hloss]

/-- The derived state rests on the pole states, the LOSS output and, where these leave it without the line, on whether the
gap timer has expired (R30). -/
theorem ContactUnit.derive_congr (u v : ContactUnit) (hpos : v.poles.pos.state = u.poles.pos.state)
    (hneg : v.poles.neg.state = u.poles.neg.state) (hloss : v.monitors.loss.output = u.monitors.loss.output)
    (hgap : u.derive = .gap ∨ u.derive = .lost → (v.gapTimer = .expired ↔ u.gapTimer = .expired)) :
    v.derive = u.derive := by
  simp only [ContactUnit.derive, PerPole.any, PerPole.all, hpos, hneg, hloss] at hgap ⊢
  grind

/-! ## The monitor brought up to date -/

@[simp] theorem ContactUnit.settle_contact (u : ContactUnit) (o : Option Nat) : (u.settle o).contact = u.derive := rfl
@[simp] theorem ContactUnit.settle_settings (u : ContactUnit) (o : Option Nat) :
    (u.settle o).settings = u.settings := rfl
@[simp] theorem ContactUnit.settle_monitors (u : ContactUnit) (o : Option Nat) :
    (u.settle o).monitors = u.monitors := rfl
@[simp] theorem ContactUnit.settle_pos (u : ContactUnit) (o : Option Nat) : (u.settle o).poles.pos = u.seatOf .pos := rfl
@[simp] theorem ContactUnit.settle_neg (u : ContactUnit) (o : Option Nat) : (u.settle o).poles.neg = u.seatOf .neg := rfl

/-- Bringing a seat timer up to date leaves the rest of its pole's record (R26). -/
theorem ContactUnit.seatOf_eq (u : ContactUnit) (p : Pole) :
    u.seatOf p = { u.poles.get p with seat := (u.seatOf p).seat } := by
  simp only [ContactUnit.seatOf]
  split
  · split <;> rfl
  · rfl

@[simp] theorem ContactUnit.seatOf_state (u : ContactUnit) (p : Pole) :
    (u.seatOf p).state = (u.poles.get p).state := by rw [u.seatOf_eq p]

/-- A seat timer brought up to date runs exactly where its condition holds (R26). -/
theorem ContactUnit.seatOf_isRunning (u : ContactUnit) (p : Pole) : (u.seatOf p).seat.isRunning = true ↔
    (u.poles.get p).state = .raising ∧ (u.monitors.get (angleMonitor p)).output = false ∧
      u.monitors.loss.output = false := by
  simp only [ContactUnit.seatOf]
  split
  · next h =>
    have conditions : (u.poles.get p).state = .raising ∧ (u.monitors.get (angleMonitor p)).output = false ∧
        u.monitors.loss.output = false := by simpa [and_assoc] using h
    split
    · next running => exact iff_of_true running conditions
    · exact iff_of_true rfl conditions
  · next h => exact iff_of_false (by simp [Timer.isRunning]) (by simpa [and_assoc] using h)

@[simp] theorem ContactUnit.settle_anyLowering (u : ContactUnit) (o : Option Nat) :
    (u.settle o).anyLowering = u.anyLowering := by
  simp [ContactUnit.anyLowering, PerPole.any, PerPole.get]

/-- The lowering timer stops while no pole is LOWERING, and is otherwise left (R28). -/
theorem ContactUnit.settle_loweringTimer (u : ContactUnit) (o : Option Nat) :
    (u.settle o).loweringTimer = if u.anyLowering then u.loweringTimer else .stopped := rfl

/-- The gap timer after the monitor is brought up to date (R31). -/
theorem ContactUnit.settle_gapTimer (u : ContactUnit) (o : Option Nat) : (u.settle o).gapTimer =
    match u.derive with
    | .gap => if u.contact = .gap then u.gapTimer else .running (o.getD u.settings.gapMax)
    | .lost => u.gapTimer
    | _ => .stopped := rfl

/-- The gap timer brought up to date has expired exactly in LOST (R31). -/
theorem ContactUnit.settle_expired_iff (u : ContactUnit) (o : Option Nat) :
    (u.settle o).gapTimer = .expired ↔ u.derive = .lost := by
  rw [u.settle_gapTimer o]
  cases h : u.derive with
  | gap =>
    have : u.gapTimer ≠ .expired := by
      have := (u.derive_without_line (.inl h)).2.2.2
      simpa [h] using this
    by_cases gap : u.contact = .gap <;> simp [gap, this]
  | lost => simpa [h] using (u.derive_without_line (.inr h)).2.2.2
  | _ => simp

/-- Bringing the monitor up to date does not change what is derived (R30). -/
@[simp] theorem ContactUnit.settle_derive (u : ContactUnit) (o : Option Nat) : (u.settle o).derive = u.derive := by
  refine ContactUnit.derive_congr _ _ (by simp [PerPole.get]) (by simp [PerPole.get]) rfl fun h => ?_
  rw [u.settle_expired_iff o]
  exact (u.derive_without_line h).2.2.2

/-- A monitor brought up to date keeps the law, whatever it was before (R26, R28, R30, R31). -/
theorem ContactUnit.settle_lawful (u : ContactUnit) (o : Option Nat) : (u.settle o).Lawful where
  derived := (u.settle_derive o).symm
  gapStopped := by
    rw [u.settle_gapTimer o, u.settle_contact o]
    cases u.derive <;> simp
  lostExpired := by simpa using (u.settle_expired_iff o).2
  loweringStopped h := by
    rw [u.settle_anyLowering o] at h
    simp [u.settle_loweringTimer o, h]
  seatPos := by simpa [ContactUnit.SeatLaw, PerPole.get] using u.seatOf_isRunning .pos
  seatNeg := by simpa [ContactUnit.SeatLaw, PerPole.get] using u.seatOf_isRunning .neg

/-! ## Changes of the monitor that keep its law -/

/-- The law does not rest on the settings, nor on what a monitor holds besides its output (R14). -/
theorem ContactUnit.Lawful.of_outputs {u v : ContactUnit} (h : u.Lawful) (hc : v.contact = u.contact)
    (hp : v.poles = u.poles) (hg : v.gapTimer = u.gapTimer) (hl : v.loweringTimer = u.loweringTimer)
    (hm : ∀ m, (v.monitors.get m).output = (u.monitors.get m).output) : v.Lawful where
  derived := by
    rw [hc, h.derived]
    exact (u.derive_congr v (by rw [hp]) (by rw [hp]) (hm .loss) (by rw [hg]; simp)).symm
  gapStopped := by rw [hc, hg]; exact h.gapStopped
  lostExpired := by rw [hc, hg]; exact h.lostExpired
  loweringStopped := by rw [hl, ContactUnit.anyLowering, hp]; exact h.loweringStopped
  seatPos := by
    have loss := hm .loss
    simp only [PerMonitor.get] at loss
    rw [ContactUnit.SeatLaw, hp, hm, loss]; exact h.seatPos
  seatNeg := by
    have loss := hm .loss
    simp only [PerMonitor.get] at loss
    rw [ContactUnit.SeatLaw, hp, hm, loss]; exact h.seatNeg

/-- A lowering timer may start while a pole is LOWERING (R28). -/
theorem ContactUnit.Lawful.startLowering {u : ContactUnit} (h : u.Lawful) (lowering : u.anyLowering = true) (t : Timer) :
    ({ u with loweringTimer := t } : ContactUnit).Lawful :=
  { h with
    loweringStopped := fun none => by
      have : u.anyLowering = false := none
      simp [lowering] at this }

@[simp] theorem Timer.tick_isRunning (x : Timer) : x.tick.isRunning = x.isRunning := by cases x <;> rfl

@[simp] theorem Timer.tick_eq_stopped (x : Timer) : x.tick = .stopped ↔ x = .stopped := by cases x <;> simp [Timer.tick]

@[simp] theorem Timer.tick_eq_expired (x : Timer) : x.tick = .expired ↔ x = .expired := by cases x <;> simp [Timer.tick]

/-- A millisecond on the three kinds of timer keeps the law: each stays stopped, running or expired. -/
theorem ContactUnit.Lawful.tick {u : ContactUnit} (h : u.Lawful) :
    ({ u with
        poles := u.poles.map fun r => { r with seat := r.seat.tick }
        gapTimer := u.gapTimer.tick
        loweringTimer := u.loweringTimer.tick } : ContactUnit).Lawful where
  derived := by
    refine h.derived.trans (Eq.symm ?_)
    exact u.derive_congr _ rfl rfl rfl fun _ => u.gapTimer.tick_eq_expired
  gapStopped gap lost := u.gapTimer.tick_eq_stopped.2 (h.gapStopped gap lost)
  lostExpired lost := u.gapTimer.tick_eq_expired.2 (h.lostExpired lost)
  loweringStopped none := u.loweringTimer.tick_eq_stopped.2 (h.loweringStopped none)
  seatPos := by simpa [ContactUnit.SeatLaw, PerPole.get, PerPole.map] using h.seatPos
  seatNeg := by simpa [ContactUnit.SeatLaw, PerPole.get, PerPole.map] using h.seatNeg

/-- The monitor after a reset keeps the law: its poles are UNKNOWN and its timers stopped (R24, R35). -/
theorem ContactUnit.afterReset_lawful (g : Image) : (ContactUnit.afterReset g).Lawful where
  derived := rfl
  gapStopped _ _ := rfl
  lostExpired lost := by simp [ContactUnit.afterReset] at lost
  loweringStopped _ := rfl
  seatPos := by simp [ContactUnit.SeatLaw, ContactUnit.afterReset, PerPole.get, PoleRecord.afterReset, Timer.isRunning]
  seatNeg := by simp [ContactUnit.SeatLaw, ContactUnit.afterReset, PerPole.get, PoleRecord.afterReset, Timer.isRunning]

end Sys2Proof.Machine

namespace Sys2Proof.Machine

/-! ## What an answer leaves of the contact monitor -/

section
variable (s : State)

@[simp] theorem State.refuse_state (c : ReplyCode) : (s.refuse c).state = s := rfl
@[simp] theorem State.ok_state : s.ok.state = s := rfl

@[simp] theorem State.writeSections_contact (l : List SectionFields) : (s.writeSections l).1.contact = s.contact := by
  induction l generalizing s with
  | nil => rfl
  | cons f l ih => simp only [State.writeSections]; split <;> simp [ih]

@[simp] theorem answerReadAllotment_state : (answerReadAllotment s).state = s := rfl
@[simp] theorem answerReadContact_state : (answerReadContact s).state = s := rfl
@[simp] theorem answerReadHistory_state (position : Byte) : (answerReadHistory position s).state = s := rfl
@[simp] theorem answerReadFaults_state (kind : Byte) : (answerReadFaults kind s).state = s := rfl
@[simp] theorem answerReadAux_state (slot : Byte) : (answerReadAux slot s).state = s := rfl
@[simp] theorem answerReadSection_state (position : Byte) : (answerReadSection position s).state = s := rfl
@[simp] theorem answerReadMeasure_state : (answerReadMeasure s).state = s := rfl
@[simp] theorem answerClearHistory_contact : (answerClearHistory s).state.contact = s.contact := rfl

@[simp] theorem answerReadItem_state (item : Half) : (answerReadItem item s).state = s := by
  simp only [answerReadItem]; split <;> rfl

@[simp] theorem answerReadAlarms_state (position : Byte) : (answerReadAlarms position s).state = s := by
  simp only [answerReadAlarms]; split <;> rfl

@[simp] theorem answerPortStatus_contact (named clear : Byte) :
    (answerPortStatus named clear s).state.contact = s.contact := by
  simp only [answerPortStatus]
  split
  · rfl
  · split
    · rfl
    · split <;> simp

@[simp] theorem answerPoll_contact (p : PortId) : (answerPoll p s).state.contact = s.contact := by
  simp only [answerPoll]; split <;> simp

@[simp] theorem answerDemand_contact (mode : Byte) (magnitude : Half) :
    (answerDemand mode magnitude s).state.contact = s.contact := by
  simp only [answerDemand]; split <;> rfl

@[simp] theorem State.startAux_contact (i : Slot) (r : AuxRecord) : (s.startAux i r).state.contact = s.contact := by
  simp only [State.startAux]
  cases r.state with
  | idle => simp
  | cooldown => dsimp only; split <;> simp
  | shed => dsimp only; (repeat' split) <;> simp
  | _ => rfl

@[simp] theorem State.stopAux_contact (i : Slot) (r : AuxRecord) : (s.stopAux i r).state.contact = s.contact := by
  simp only [State.stopAux]
  cases r.state with
  | cooldown | shed => dsimp only; split <;> simp
  | _ => simp

@[simp] theorem State.writeAux_contact (i : Slot) (part : AuxConfig) (clamped : Bool) :
    (s.writeAux i part clamped).state.contact = s.contact := by
  simp only [State.writeAux]
  split
  · simp
  · split <;> simp

@[simp] theorem answerAuxStart_contact (slot : Byte) : (answerAuxStart slot s).state.contact = s.contact := by
  simp only [answerAuxStart]; split <;> simp

@[simp] theorem answerAuxStop_contact (slot : Byte) : (answerAuxStop slot s).state.contact = s.contact := by
  simp only [answerAuxStop]; split <;> simp

@[simp] theorem answerAuxWrite_contact (slot : Byte) (f : AuxFields) :
    (answerAuxWrite slot f s).state.contact = s.contact := by
  simp only [answerAuxWrite]; (repeat' split) <;> simp

@[simp] theorem answerAuxRemove_contact (slot : Byte) : (answerAuxRemove slot s).state.contact = s.contact := by
  simp only [answerAuxRemove]; (repeat' split) <;> simp

@[simp] theorem answerSectionWrite_contact (l : List SectionFields) :
    (answerSectionWrite l s).state.contact = s.contact := by
  simp only [answerSectionWrite]; split <;> simp

@[simp] theorem answerSectionErase_contact : (answerSectionErase s).state.contact = s.contact := by
  simp only [answerSectionErase]; (repeat' split) <;> simp

@[simp] theorem answerSectionSet_contact (id : Half) : (answerSectionSet id s).state.contact = s.contact := by
  simp only [answerSectionSet]; (repeat' split) <;> simp

@[simp] theorem answerSectionAhead_contact (id : Half) : (answerSectionAhead id s).state.contact = s.contact := by
  simp only [answerSectionAhead]; (repeat' split) <;> simp

@[simp] theorem answerRouteWrite_contact (kind mask enable : Byte) :
    (answerRouteWrite kind mask enable s).state.contact = s.contact := by
  simp only [answerRouteWrite]; (repeat' split) <;> simp

@[simp] theorem answerAckAlarm_contact (p : PortId) (n : Half) : (answerAckAlarm p n s).state.contact = s.contact := by
  simp only [answerAckAlarm]; (repeat' split) <;> simp

@[simp] theorem answerSetHistoryPolicy_contact (policy : Byte) :
    (answerSetHistoryPolicy policy s).state.contact = s.contact := by
  simp only [answerSetHistoryPolicy]; (repeat' split) <;> simp

@[simp] theorem answerClearFault_contact (kind : Byte) : (answerClearFault kind s).state.contact = s.contact := by
  simp only [answerClearFault]; (repeat' split) <;> simp

@[simp] theorem answerMode_contact (target : Byte) : (answerMode target s).state.contact = s.contact := by
  simp only [answerMode, answerModeSetup, answerModeRun]; (repeat' split) <;> simp

@[simp] theorem answerCheck_contact (level : Byte) : (answerCheck level s).state.contact = s.contact := by
  simp only [answerCheck]; split <;> rfl

@[simp] theorem answerSave_contact : (answerSave s).state.contact = s.contact := by
  simp only [answerSave]; (repeat' split) <;> rfl

@[simp] theorem answerReset_contact : (answerReset s).state.contact = s.contact := by
  simp only [answerReset]; split <;> simp

@[simp] theorem answerRaise_contact : (answerRaise s).state.contact = s.contact := by
  simp only [answerRaise]; split <;> simp

@[simp] theorem answerBattery_contact (value : Byte) : (answerBattery value s).state.contact = s.contact := by
  simp only [answerBattery]; (repeat' split) <;> simp

@[simp] theorem answerTractionInhibit_contact (value : Byte) :
    (answerTractionInhibit value s).state.contact = s.contact := by
  simp only [answerTractionInhibit]; (repeat' split) <;> simp

end

/-! ## What keeps the law: the router, the alarms and the hand-over -/

/-- The contact monitor after LOWER (R28): the poles ordered down, the monitor brought up to date, and a stopped lowering
timer started while a pole is LOWERING. -/
def ContactUnit.lowered (u : ContactUnit) (override : Option Nat) : ContactUnit :=
  let v := ({ u with poles := u.poles.map PoleRecord.lowerNow } : ContactUnit).settle override
  if v.anyLowering && v.loweringTimer == .stopped then { v with loweringTimer := .running v.settings.lowerTimeMax } else v

@[simp] theorem State.lowerPoles_contact (s : State) :
    s.lowerPoles.contact = s.contact.lowered s.sections.gapOverride := by
  simp only [State.lowerPoles, State.noticeContact_contact, State.endLineLost_contact, State.sectionSignals_contact,
    State.lineSignals_contact]
  rw [apply_ite State.contact]
  rfl

theorem ContactUnit.lowered_lawful (u : ContactUnit) (o : Option Nat) : (u.lowered o).Lawful := by
  have settled := ContactUnit.settle_lawful { u with poles := u.poles.map PoleRecord.lowerNow } o
  simp only [ContactUnit.lowered]
  split
  · next h => exact settled.startLowering (Bool.and_eq_true_iff.1 h).1 _
  · exact settled

theorem State.perform_lawful {s : State} (h : s.contact.Lawful) (a : Action) : (s.perform a).contact.Lawful := by
  cases a with
  | lowerPoles => simpa [State.perform] using s.contact.lowered_lawful _
  | tractionInhibit x => simpa [State.perform] using h

theorem State.handleEvent_lawful {s : State} (h : s.contact.Lawful) (e : Event) : (s.handleEvent e).contact.Lawful := by
  have latched : (s.latchEvent e).contact.Lawful := by simpa using h
  simp only [State.handleEvent]
  split
  · simpa using State.perform_lawful latched _
  · simpa using h

theorem State.handleEvents_lawful {s : State} (h : s.contact.Lawful) (es : List Event) :
    (s.handleEvents es).contact.Lawful := by
  simp only [State.handleEvents]
  induction es generalizing s with
  | nil => exact h
  | cons e es ih => exact ih (State.handleEvent_lawful h e)

theorem State.takeAlarm_lawful {s : State} (h : s.contact.Lawful) (b : ContactState) (n : Nat) (x : AlarmSignal) :
    (State.takeAlarm b n s x).contact.Lawful := by
  cases x with
  | raised k c =>
    have entered : (s.enterAlarm k c b n).contact.Lawful := by simpa using h
    exact State.handleEvent_lawful entered _
  | ended k => simpa [State.takeAlarm] using h

theorem State.takeAlarms_lawful {s : State} (h : s.contact.Lawful) (b : ContactState) (n : Nat) (xs : List AlarmSignal) :
    (xs.foldl (State.takeAlarm b n) s).contact.Lawful := by
  induction xs generalizing s with
  | nil => exact h
  | cons x xs ih => exact ih (State.takeAlarm_lawful h b n x)

/-- After a hand-over the monitor keeps the law, whatever it was before: it has been brought up to date, and what follows
leaves it or lowers the poles (R14, R30). -/
theorem State.handOver_lawful (s : State) (before : ContactUnit) (n : Nat) (x : HandOver) :
    (s.handOver before n x).contact.Lawful := by
  have event (t : State) (c : Prop) [Decidable c] (e : Event) (h : t.contact.Lawful) :
      (if c then t.handleEvent e else t).contact.Lawful := by
    split
    · exact State.handleEvent_lawful h e
    · exact h
  have cut (t : State) (c : Prop) [Decidable c] (h : t.contact.Lawful) :
      (if c then t.takeOvervoltageCut else t).contact.Lawful := by
    split
    · simpa using h
    · exact h
  simp only [State.handOver, State.noticeContact_contact]
  apply event
  apply event
  apply State.takeAlarms_lawful
  rw [State.endLineLost_contact]
  apply State.takeAlarms_lawful
  apply cut
  rw [State.sectionSignals_contact, State.lineSignals_contact]
  exact s.contact.settle_lawful _

/-! ## What keeps the law: expiries and frames -/

theorem State.sweep_lawful (s : State) (codes : Vector RawCode 8) : (s.sweep codes).contact.Lawful :=
  State.handOver_lawful _ _ _ _

theorem State.seatExpired_lawful {s : State} (h : s.contact.Lawful) (p : Pole) : (s.seatExpired p).contact.Lawful := by
  simp only [State.seatExpired]
  split
  · exact State.handOver_lawful _ _ _ _
  · exact h

theorem State.gapExpired_lawful {s : State} (h : s.contact.Lawful) : s.gapExpired.contact.Lawful := by
  simp only [State.gapExpired]
  split
  · exact State.handOver_lawful _ _ _ _
  · exact h

theorem State.loweringExpired_lawful {s : State} (h : s.contact.Lawful) : s.loweringExpired.contact.Lawful := by
  simp only [State.loweringExpired]
  split
  · exact State.handOver_lawful _ _ _ _
  · exact h

theorem State.windowExpired_lawful {s : State} (h : s.contact.Lawful) : s.windowExpired.contact.Lawful := by
  simp only [State.windowExpired]
  split
  · exact h
  · split
    · exact h
    · split
      · exact h
      · exact State.handleEvent_lawful (by simpa using h) _

theorem State.testEssential_lawful {s : State} (h : s.contact.Lawful) (r : Record) :
    (s.testEssential r).contact.Lawful := by
  simp only [State.testEssential]
  split
  · split
    · exact h
    · apply State.handleEvent_lawful
      exact h
  · exact h

theorem State.takePublication_lawful {s : State} (h : s.contact.Lawful) (r : Record) :
    (s.takePublication r).contact.Lawful := by
  simp only [State.takePublication, State.setAux_contact]
  exact State.testEssential_lawful (by simpa using h) r

theorem State.expireFrame_lawful {s : State} (h : s.contact.Lawful) : s.expireFrame.contact.Lawful := by
  have published (t : State) (r : Record) (es : List Event) (ht : t.contact.Lawful) :
      ((t.takePublication r).publish.handleEvents es).contact.Lawful :=
    State.handleEvents_lawful (by simpa using State.takePublication_lawful ht r) es
  simp only [State.expireFrame]
  split
  · apply State.handleEvent_lawful
    apply published
    exact h
  · apply published
    exact h

@[simp] theorem State.auxEvent_contact (s : State) (i : Slot) (due : AuxRecord → Bool) (f : AuxRecord → Sequencer) :
    (s.auxEvent i due f).contact = s.contact := by
  simp only [State.auxEvent]; (repeat' split) <;> simp

theorem State.stallExpired_lawful {s : State} (h : s.contact.Lawful) : s.stallExpired.contact.Lawful := by
  simp only [State.stallExpired]
  split
  · exact h
  · split
    · exact h
    · split
      · split
        · exact h
        · apply State.handleEvent_lawful
          exact h
      · exact h

@[simp] theorem State.saveCompleted_contact (s : State) (agrees : Bool) :
    (s.saveCompleted agrees).contact = s.contact := by
  simp only [State.saveCompleted]; split <;> simp

/-! ## What keeps the law: the cab's requests and the items -/

/-- A monitor's settings and counts may change where its state stays (R21). -/
theorem State.setMonitor_lawful {s : State} (h : s.contact.Lawful) (m : MonitorId) (f : Monitor → Monitor)
    (g : MonitorSetting → MonitorSetting) (hf : ∀ k, (f k).output = k.output) : (s.setMonitor m f g).contact.Lawful := by
  refine h.of_outputs rfl rfl rfl rfl fun k => ?_
  cases m <;> cases k <;> simp [State.setMonitor, PerMonitor.get, PerMonitor.set, hf]

theorem State.setEnable_lawful {s : State} (h : s.contact.Lawful) (m : MonitorId) (on : Bool) :
    (s.setEnable m on).contact.Lawful := by
  simp only [State.setEnable]
  split
  · exact h
  · exact State.handOver_lawful _ _ _ _

theorem State.setFilter_lawful {s : State} (h : s.contact.Lawful) (m : MonitorId) (f : MonitorSetting → MonitorSetting) :
    (s.setFilter m f).contact.Lawful := by
  simp only [State.setFilter]
  split
  · exact h
  · exact State.setMonitor_lawful h m _ f fun _ => rfl

theorem State.setContactSettings_lawful {s : State} (h : s.contact.Lawful) (f : ContactSettings → ContactSettings) :
    (s.setContactSettings f).contact.Lawful :=
  h.of_outputs rfl rfl rfl rfl fun _ => rfl

theorem NumericItem.store_lawful {s : State} (h : s.contact.Lawful) (v : Nat) (n : NumericItem) :
    (n.store s v).contact.Lawful := by
  cases n with
  | vLoss | hLoss | vOv | hOv | latLimit | elevMin | elevMax | hAng | stowLevel | seatTime | gapMax | lowerTimeMax =>
    exact State.setContactSettings_lawful h _
  | _ => simpa [NumericItem.store] using h

/-- A value that names a state of its item is stored, and any other leaves the state as it is. -/
theorem storeNamed_lawful {α : Type} {s : State} (h : s.contact.Lawful) (named : Option α) (store : α → State)
    (hs : ∀ a, (store a).contact.Lawful) : (storeNamed s named store).state.contact.Lawful := by
  cases named with
  | none => exact h
  | some a => exact hs a

theorem Item.write_lawful {s : State} (h : s.contact.Lawful) (v : Nat) (i : Item) :
    (i.write s v).state.contact.Lawful := by
  cases i with
  | numeric n => exact NumericItem.store_lawful h _ n
  | enable m => exact storeNamed_lawful h _ _ (State.setEnable_lawful h m)
  | filterMode m => exact storeNamed_lawful h _ _ fun _ => State.setFilter_lawful h m _
  | decimation m => exact State.setFilter_lawful h m _
  | sweepPeriod | framePeriod | readOnly => exact h
  | boost | charge | autoRun | rate | parity | polarity | duplex | role => exact storeNamed_lawful h _ _ fun _ => h

theorem answerSetItem_lawful {s : State} (h : s.contact.Lawful) (item value : Half) :
    (answerSetItem item value s).state.contact.Lawful := by
  simp only [answerSetItem]
  split
  · exact h
  · split
    · exact h
    · split
      · exact Item.write_lawful h _ _
      · exact h

theorem answerRaiseFault_lawful {s : State} (h : s.contact.Lawful) (number cls : Byte) :
    (answerRaiseFault number cls s).state.contact.Lawful := by
  simp only [answerRaiseFault]
  split
  · exact h
  · split
    · exact State.handleEvent_lawful h _
    · exact h

theorem answerClearFlags_lawful {s : State} (h : s.contact.Lawful) : (answerClearFlags s).state.contact.Lawful :=
  h.of_outputs rfl rfl rfl rfl fun m => by cases m <;> rfl

/-! ## What keeps the law: the ports -/

theorem State.takeRequest_lawful {s : State} (h : s.contact.Lawful) (p : PortId) (kind tag : Byte) (good : Bool)
    (take : State → Answer) (ht : (take s).state.contact.Lawful) :
    (s.takeRequest p kind tag good take).contact.Lawful := by
  rcases s.takeRequest_cases p kind tag good take with ⟨_, e⟩ | ⟨_, _, e⟩ | ⟨_, _, _, e⟩ | ⟨_, _, _, e⟩ <;> rw [e]
  · simpa using h
  · simpa using h
  · simpa using h
  · simpa using ht

theorem State.answerFrame_lawful {s : State} (h : s.contact.Lawful) (p : PortId) (kind tag : Byte) (code : ReplyCode) :
    (s.answerFrame p kind tag code).contact.Lawful := by
  simp only [State.answerFrame]; split <;> simpa using h

theorem State.takeCommand_lawful {s : State} (h : s.contact.Lawful) (i : Instr) : (s.takeCommand i).contact.Lawful := by
  cases i with
  | setItem p t item v => exact State.takeRequest_lawful h _ _ _ _ _ (answerSetItem_lawful h item v)
  | raiseFault p t n c => exact State.takeRequest_lawful h _ _ _ _ _ (answerRaiseFault_lawful h n c)
  | clearFlags p t => exact State.takeRequest_lawful h _ _ _ _ _ (answerClearFlags_lawful h)
  | lower p t => exact State.takeRequest_lawful h _ _ _ _ _ (by simpa [answerLower] using s.contact.lowered_lawful _)
  | readAllotment | readContact | readAlarms | readHistory | readFaults | readAux | readSection | readMeasure | readItem
  | portStatus | poll | demand | auxStart | auxStop | auxWrite | auxRemove | sectionWrite | sectionErase | sectionSet
  | sectionAhead | routeWrite | ackAlarm | clearHistory | setHistoryPolicy | clearFault | mode | check | save | reset
  | raise | battery | tractionInhibit =>
    exact State.takeRequest_lawful h _ _ _ _ _ (by simpa using h)
  | _ => exact h

theorem State.takeBody_lawful {s : State} (h : s.contact.Lawful) (p : PortId) (body : List Byte) :
    (s.takeBody p body).contact.Lawful := by
  simp only [State.takeBody]
  split
  · exact State.answerFrame_lawful h _ _ _ _
  · exact State.answerFrame_lawful h _ _ _ _
  · exact State.takeCommand_lawful h _

theorem State.takeByte_lawful {s : State} (h : s.contact.Lawful) (p : PortId) (b : Byte) (error : Bool) :
    (s.takeByte p b error).contact.Lawful := by
  simp only [State.takeByte]
  split
  · exact h
  · split
    · simpa using h
    · split
      · split <;> simpa using h
      · split <;> simpa using h
      · split
        · simpa using h
        · split
          · exact State.takeBody_lawful (by simpa using h) p _
          · simpa using h

end Sys2Proof.Machine

namespace Sys2Proof.Machine

/-! ## What keeps the law: resets and start-up -/

/-- Start-up puts the contact monitor into its reset state, loaded from what the memory gives (R35, R167): the report of a
corrupt image routes no action. -/
theorem State.startUp_contact (s : State) : s.startUp.contact = .afterReset s.store.nv.judge.2 := by
  have reported (t : State) : t.reportImage.contact = t.contact := by
    simp only [State.reportImage]
    split
    · rw [State.handleEvent_plain _ _ rfl]
      simp
    · rfl
  exact reported s.load

theorem State.startUp_lawful (s : State) : s.startUp.contact.Lawful := by
  rw [s.startUp_contact]
  exact ContactUnit.afterReset_lawful _

theorem State.transmitted_lawful {s : State} (h : s.contact.Lawful) (p : PortId) :
    (s.transmitted p).contact.Lawful := by
  simp only [State.transmitted]
  split
  · split
    · exact h
    · split
      · exact State.startUp_lawful _
      · exact h
  · exact h
  · exact h

/-- The end of a hold starts the part up, or leaves it in reset (R165). -/
theorem State.endHold_contactLaw (s : State) : s.endHold.ContactLaw := by
  rw [State.contactLaw_iff, State.endHold]
  split
  · exact fun _ => s.startUp_lawful
  · next down => exact fun up => absurd up down

/-! ## Every command and every step -/

/-- A request's complete frame is heard and taken by its line of `takeCommand`, the one that reception uses (R171, R172). -/
theorem exec_of_bodyOf (i : Instr) (x : PortId × List Byte) (h : bodyOf i = some x) (s : State) :
    exec i s = s.actFrame x.1 fun u => u.takeCommand i := by
  cases i <;> cases h <;> rfl

/-- An event keeps the law where what it does to a part out of reset does. -/
theorem State.act_contactLaw {s t : State} {f : State → State} (h : s.ContactLaw)
    (hf : s.contact.Lawful → (f s).contact.Lawful) (ht : s.act f = .next t) : t.ContactLaw := by
  simp only [State.act] at ht
  split at ht
  · next up =>
    cases ht
    exact (State.contactLaw_iff _).2 fun _ => hf ((s.contactLaw_iff).1 h up)
  · cases ht
    exact h

theorem State.actFrame_contactLaw {s t : State} {p : PortId} {f : State → State} (h : s.ContactLaw)
    (hf : s.contact.Lawful → (f (s.hunt p)).contact.Lawful) (ht : s.actFrame p f = .next t) : t.ContactLaw := by
  refine State.act_contactLaw h (fun lawful => ?_) ht
  split
  · exact lawful
  · exact hf lawful

/-- The law says nothing of a part that is in reset. -/
theorem State.contactLaw_of_down {s : State} (h : s.up = false) : s.ContactLaw :=
  fun up => by simp [h] at up

theorem exec_keeps_contactLaw (i : Instr) (s t : State) (h : s.ContactLaw) (ht : exec i s = .next t) : t.ContactLaw := by
  cases hb : bodyOf i with
  | some x =>
    rw [exec_of_bodyOf i x hb] at ht
    exact State.actFrame_contactLaw h (fun lawful => State.takeCommand_lawful (by simpa using lawful) i) ht
  | none =>
    unfold exec at ht
    cases i with
    | sweepCompletion codes =>
      refine State.act_contactLaw h (fun lawful => ?_) ht
      split
      · exact s.sweep_lawful codes
      · exact lawful
    | seatTimerExpiry p => exact State.act_contactLaw h (fun lawful => State.seatExpired_lawful lawful p) ht
    | gapTimerExpiry => exact State.act_contactLaw h State.gapExpired_lawful ht
    | loweringTimerExpiry => exact State.act_contactLaw h State.loweringExpired_lawful ht
    | windowExpiry => exact State.act_contactLaw h State.windowExpired_lawful ht
    | frameExpiry =>
      refine State.act_contactLaw h (fun lawful => ?_) ht
      split
      · exact State.expireFrame_lawful lawful
      · exact lawful
    | recloseExpiry =>
      refine State.act_contactLaw h (fun lawful => ?_) ht
      split <;> exact lawful
    | inrushExpiry | onTimerExpiry | runTimerExpiry | offInhibitExpiry =>
      exact State.act_contactLaw h (fun lawful => by simpa using lawful) ht
    | stallTimerExpiry => exact State.act_contactLaw h State.stallExpired_lawful ht
    | saveCompletion agrees => exact State.act_contactLaw h (fun lawful => by simpa using lawful) ht
    | receiveGapTimeout p =>
      refine State.act_contactLaw h (fun lawful => ?_) ht
      split <;> simpa using lawful
    | frameCheckFailed p failure => exact State.actFrame_contactLaw h (fun lawful => by simpa using lawful) ht
    | unknownRequest p tag kind =>
      exact State.actFrame_contactLaw h (fun lawful => State.answerFrame_lawful (by simpa using lawful) _ _ _ _) ht
    | transmitComplete p => exact State.act_contactLaw h (fun lawful => State.transmitted_lawful lawful p) ht
    | byteReceived p b error => exact State.act_contactLaw h (fun lawful => State.takeByte_lawful lawful p b error) ht
    | powerOn | supplyLow =>
      cases ht
      exact State.contactLaw_of_down (by simp [State.up])
    | retentionLost =>
      cases ht
      exact h
    | supplyStableExpiry =>
      simp only [execSupplyStableExpiry] at ht
      split at ht <;> cases ht
      · exact State.endHold_contactLaw _
      · exact h
    | pinResetAssert =>
      simp only [execPinResetAssert] at ht
      split at ht <;> cases ht
      · exact h
      · exact State.contactLaw_of_down (by simp [State.up])
    | pinResetRelease =>
      simp only [execPinResetRelease] at ht
      split at ht <;> cases ht
      · exact State.endHold_contactLaw _
      · exact h
    | _ => cases hb

theorem State.tick_contactLaw {s : State} (h : s.ContactLaw) : s.tick.ContactLaw :=
  (State.contactLaw_iff _).2 fun up => ContactUnit.Lawful.tick ((s.contactLaw_iff).1 h up)

/-- Settles O28: the hand-over, LOWER and start-up each leave a monitor that keeps the law whatever it was before, and
everything else leaves the monitor's outputs, poles and timers, or lets a millisecond pass on them. -/
theorem contactLawIsKept : Obligations.ContactLawIsKept := by
  intro s t h ht
  cases queue : s.pending with
  | nil =>
    simp only [step, queue] at ht
    cases ht
    exact State.tick_contactLaw h
  | cons i rest =>
    simp only [step, queue] at ht
    exact exec_keeps_contactLaw i { s with pending := rest } t h ht

end Sys2Proof.Machine

namespace Sys2Proof.Machine

/-! ## Evaluations (R15) -/

theorem evaluationOf_eq_condition (a b : Bool) : evaluationOf a b = .condition ↔ a = true := by
  cases a <;> cases b <;> simp [evaluationOf]

theorem evaluationOf_eq_clean (a b : Bool) : evaluationOf a b = .clean ↔ a = false ∧ b = true := by
  cases a <;> cases b <;> simp [evaluationOf]

/-- An angle's class is LATERAL, then HIGH, then LOW (R15). -/
theorem ContactSettings.angleClass_iff (c : ContactSettings) (x y : Int) :
    (c.angleClass x y = some .lateral ↔ (x.natAbs : Int) > c.latLimit) ∧
    (c.angleClass x y = some .high ↔ (x.natAbs : Int) ≤ c.latLimit ∧ y > c.elevMax) ∧
    (c.angleClass x y = some .low ↔ (x.natAbs : Int) ≤ c.latLimit ∧ y ≤ c.elevMax ∧ y < c.elevMin) := by
  unfold ContactSettings.angleClass
  generalize (x.natAbs : Int) = lateral
  split
  · simp; omega
  · split
    · simp; omega
    · split <;> (simp; omega)

theorem ContactSettings.angleClass_isSome (c : ContactSettings) (x y : Int) :
    (c.angleClass x y).isSome = true ↔ (x.natAbs : Int) > c.latLimit ∨ y > c.elevMax ∨ y < c.elevMin := by
  unfold ContactSettings.angleClass
  generalize (x.natAbs : Int) = lateral
  split
  · simp [*]
  · split
    · simp [*]
    · split <;> simp [*]

theorem ContactSettings.evalLoss_iff (c : ContactSettings) (x : Int) :
    (c.evalLoss x = .condition ↔ x < c.vLoss) ∧ (c.evalLoss x = .clean ↔ x ≥ c.vLoss + c.hLoss) := by
  simp only [ContactSettings.evalLoss, evaluationOf_eq_condition, evaluationOf_eq_clean, decide_eq_true_eq,
    decide_eq_false_iff_not, true_and]
  omega

theorem ContactSettings.evalOvervolt_iff (c : ContactSettings) (x : Int) :
    (c.evalOvervolt x = .condition ↔ x > c.vOv) ∧
      (c.evalOvervolt x = .clean ↔ x ≤ (c.vOv : Int) - c.hOv ∧ ¬x > c.vOv) := by
  simp only [ContactSettings.evalOvervolt, evaluationOf_eq_condition, evaluationOf_eq_clean, decide_eq_true_eq,
    decide_eq_false_iff_not, true_and]
  omega

theorem ContactSettings.evalAngle_iff (c : ContactSettings) (x y : Int) :
    (c.evalAngle x y = .condition ↔ (x.natAbs : Int) > c.latLimit ∨ y > c.elevMax ∨ y < c.elevMin) ∧
    (c.evalAngle x y = .clean ↔
      (x.natAbs : Int) ≤ (c.latLimit : Int) - c.hAng ∧ y ≤ (c.elevMax : Int) - c.hAng ∧
        y ≥ (c.elevMin : Int) + c.hAng ∧ ¬((x.natAbs : Int) > c.latLimit ∨ y > c.elevMax ∨ y < c.elevMin)) := by
  simp only [ContactSettings.evalAngle, evaluationOf_eq_condition, evaluationOf_eq_clean, Bool.eq_false_iff, ne_eq,
    c.angleClass_isSome, Bool.and_eq_true, decide_eq_true_eq, true_and]
  tauto

/-! ## One sweep of a monitor (R16 to R20) -/

section
variable (m : Monitor) (set : MonitorSetting) (e : Evaluation) (cls : Option ConditionClass)

/-- A DIRECT monitor evaluates on every sweep (R17). -/
theorem Monitor.takeSweep_direct (hs : m.state = .clear ∨ m.state = .asserted) (hm : set.mode = .direct) :
    m.takeSweep set false e cls = m.evaluate .direct e cls := by
  rcases hs with hs | hs <;> simp [Monitor.takeSweep, hs, hm]

/-- A FILTERED monitor only counts the sweeps between two evaluations (R16). -/
theorem Monitor.takeSweep_waiting (hs : m.state = .clear ∨ m.state = .asserted) (hm : set.mode = .filtered)
    (hd : m.decimation + 1 < set.decimation) :
    m.takeSweep set false e cls = { monitor := { m with decimation := m.decimation + 1 } } := by
  have : ¬set.decimation ≤ m.decimation + 1 := by omega
  rcases hs with hs | hs <;> simp [Monitor.takeSweep, hs, hm, this]

/-- A FILTERED monitor evaluates on the sweep that completes its decimation (R16). -/
theorem Monitor.takeSweep_due (hs : m.state = .clear ∨ m.state = .asserted) (hm : set.mode = .filtered)
    (hd : set.decimation ≤ m.decimation + 1) :
    m.takeSweep set false e cls = ({ m with decimation := 0 } : Monitor).evaluate .filtered e cls := by
  rcases hs with hs | hs <;> simp [Monitor.takeSweep, hs, hm, hd]

/-- A held sweep changes nothing in CLEAR and ASSERTED (R20). -/
theorem Monitor.takeSweep_held (hs : m.state = .clear ∨ m.state = .asserted) :
    m.takeSweep set true e cls = { monitor := m } := by
  rcases hs with hs | hs <;> simp [Monitor.takeSweep, hs]

theorem Monitor.takeSweep_disabled (held : Bool) (hs : m.state = .disabled) :
    m.takeSweep set held e cls = { monitor := m } := by
  simp [Monitor.takeSweep, hs]

/-- A settling monitor counts a sweep, held or not, and is CLEAR at the eighth (R19). -/
theorem Monitor.takeSweep_settling (held : Bool) (hs : m.state = .settling) : m.takeSweep set held e cls =
    if m.settling < 7 then { monitor := { m with settling := m.settling + 1 } }
    else { monitor := { m with state := .clear, settling := 0, filter := 0, decimation := 0 } } := by
  have : 8 ≤ m.settling + 1 ↔ ¬m.settling < 7 := by omega
  simp only [Monitor.takeSweep, hs, this, ite_not]

/-! ## One evaluation (R15 to R18) -/

theorem Monitor.evaluate_direct_condition (hs : m.state = .clear) :
    m.evaluate .direct .condition cls = m.enter cls := by simp [Monitor.evaluate, hs]

/-- The fourth consecutive evaluation of result condition enters ASSERTED (R16). -/
theorem Monitor.evaluate_filtered_condition (hs : m.state = .clear) : m.evaluate .filtered .condition cls =
    if m.filter < 3 then { monitor := { m with filter := m.filter + 1 } } else m.enter cls := by
  have : 4 ≤ m.filter + 1 ↔ ¬m.filter < 3 := by omega
  simp only [Monitor.evaluate, hs, this, ite_not]

/-- The fourth consecutive clean evaluation leaves ASSERTED, in either mode (R16, R17). -/
theorem Monitor.evaluate_clean (mode : FilterMode) (hs : m.state = .asserted) : m.evaluate mode .clean cls =
    if m.filter < 3 then { monitor := { m with filter := m.filter + 1 } }
    else { monitor := { m with state := .clear, filter := 0 } } := by
  have : 4 ≤ m.filter + 1 ↔ ¬m.filter < 3 := by omega
  simp only [Monitor.evaluate, hs, Monitor.countClean, this, ite_not]

/-- An evaluation of result condition while ASSERTED hands on a class other than the recorded one (R18). -/
theorem Monitor.evaluate_asserted_condition (mode : FilterMode) (hs : m.state = .asserted) :
    m.evaluate mode .condition cls = m.stayAsserted cls := by simp [Monitor.evaluate, hs]

/-- An evaluation that agrees with the state, or is of result band, returns the count to 0 (R16, R17). -/
theorem Monitor.evaluate_agreeing (mode : FilterMode) (hs : m.state = .clear ∨ m.state = .asserted)
    (he : e = .band ∨ (m.state = .clear ∧ e = .clean) ∨ (m.state = .asserted ∧ e = .condition ∧ cls = m.cls)) :
    m.evaluate mode e cls = { monitor := { m with filter := 0 } } := by
  rcases he with rfl | ⟨hs, rfl⟩ | ⟨hs, rfl, rfl⟩
  · rcases hs with hs | hs <;> simp [Monitor.evaluate, hs]
  · simp [Monitor.evaluate, hs]
  · simp [Monitor.evaluate, hs, Monitor.stayAsserted]

end

/-! ## Many sweeps of a FILTERED monitor (R16) -/

/-- A monitor that counts `d` sweeps to each evaluation, and evaluations that disagree with its state, has after `k` sweeps
short of four evaluations counted `k / d` of them and `k % d` sweeps since. -/
theorem Monitor.iterate_counting {f : Monitor → Monitor} {st : MonitorState} {d : Nat}
    (waits : ∀ x : Monitor, x.state = st → x.decimation + 1 < d → f x = { x with decimation := x.decimation + 1 })
    (counts : ∀ x : Monitor, x.state = st → d ≤ x.decimation + 1 → x.filter < 3 →
      f x = { x with filter := x.filter + 1, decimation := 0 })
    (m : Monitor) (hs : m.state = st) (hf : m.filter = 0) (hd : m.decimation = 0) (k : Nat) (hk : k < 4 * d) :
    f^[k] m = { m with filter := k / d, decimation := k % d } := by
  induction k with
  | zero => cases m; simp_all
  | succ k ih =>
    have positive : 0 < d := by omega
    rw [Function.iterate_succ_apply', ih (by omega)]
    by_cases due : d ≤ k % d + 1
    · have last : k % d + 1 = d := by have := Nat.mod_lt k positive; omega
      have multiple : k + 1 = d * (k / d + 1) := by
        have := Nat.div_add_mod k d
        rw [Nat.mul_add]; omega
      have below : k / d + 1 < 4 := by
        by_contra many
        have := Nat.mul_le_mul_left d (Nat.le_of_not_lt many)
        omega
      rw [counts { m with filter := k / d, decimation := k % d } hs due (by show k / d < 3; omega), multiple,
        Nat.mul_div_cancel_left _ positive, Nat.mul_mod_right]
    · have short : k % d + 1 < d := by omega
      have mod : (k + 1) % d = k % d + 1 := by
        rw [Nat.add_mod, Nat.mod_eq_of_lt (by omega : 1 < d), Nat.mod_eq_of_lt short]
      have div : (k + 1) / d = k / d := by
        rw [Nat.add_div positive, Nat.mod_eq_of_lt (by omega : 1 < d), Nat.div_eq_of_lt (by omega : 1 < d),
          if_neg (by omega), Nat.add_zero]
      rw [waits { m with filter := k / d, decimation := k % d } hs short, mod, div]

/-- The sweep that completes the fourth evaluation finds three counted, and the decimation's last sweep due. -/
theorem Monitor.iterate_fourth {f : Monitor → Monitor} {st : MonitorState} {d : Nat} (positive : 0 < d)
    (waits : ∀ x : Monitor, x.state = st → x.decimation + 1 < d → f x = { x with decimation := x.decimation + 1 })
    (counts : ∀ x : Monitor, x.state = st → d ≤ x.decimation + 1 → x.filter < 3 →
      f x = { x with filter := x.filter + 1, decimation := 0 })
    (m : Monitor) (hs : m.state = st) (hf : m.filter = 0) (hd : m.decimation = 0) :
    f^[4 * d] m = f { m with filter := 3, decimation := d - 1 } := by
  have last : 4 * d = (4 * d - 1) + 1 := by omega
  have parts : 4 * d - 1 = d - 1 + d * 3 := by omega
  have div : (4 * d - 1) / d = 3 := by
    rw [parts, Nat.add_mul_div_left _ _ positive, Nat.div_eq_of_lt (by omega)]
  have mod : (4 * d - 1) % d = d - 1 := by
    rw [parts, Nat.add_mul_mod_self_left, Nat.mod_eq_of_lt (by omega)]
  rw [last, Function.iterate_succ_apply', Monitor.iterate_counting waits counts m hs hf hd _ (by omega), div, mod]

/-- The sweeps of one result that disagrees with the state of a FILTERED monitor: counted until the fourth evaluation,
which leaves the state (R16). -/
theorem Monitor.iterate_disagreeing (m : Monitor) (set : MonitorSetting) (cls : Option ConditionClass) (e : Evaluation)
    (hm : set.mode = .filtered) (positive : 0 < set.decimation) (hs : m.state = .clear ∨ m.state = .asserted)
    (counts : ∀ x : Monitor, x.state = m.state → x.filter < 3 →
      x.evaluate .filtered e cls = { monitor := { x with filter := x.filter + 1 } })
    (hf : m.filter = 0) (hd : m.decimation = 0) (k : Nat) (hk : k ≤ 4 * set.decimation) :
    (fun x : Monitor => (x.takeSweep set false e cls).monitor)^[k] m =
      if k = 4 * set.decimation then (({ m with filter := 3 } : Monitor).evaluate .filtered e cls).monitor
      else { m with filter := k / set.decimation, decimation := k % set.decimation } := by
  have waits (x : Monitor) (hx : x.state = m.state) (h : x.decimation + 1 < set.decimation) :
      (x.takeSweep set false e cls).monitor = { x with decimation := x.decimation + 1 } := by
    rw [x.takeSweep_waiting set e cls (by rwa [hx]) hm h]
  have due (x : Monitor) (hx : x.state = m.state) (h : set.decimation ≤ x.decimation + 1) (h3 : x.filter < 3) :
      (x.takeSweep set false e cls).monitor = { x with filter := x.filter + 1, decimation := 0 } := by
    rw [x.takeSweep_due set e cls (by rwa [hx]) hm h, counts { x with decimation := 0 } hx h3]
  split
  · next h =>
    rw [h, Monitor.iterate_fourth positive waits due m rfl hf hd]
    rw [Monitor.takeSweep_due { m with filter := 3, decimation := set.decimation - 1 } set e cls hs hm
      (by show _ ≤ set.decimation - 1 + 1; omega), hd]
  · next h => exact Monitor.iterate_counting waits due m rfl hf hd k (by omega)

/-- A CLEAR monitor with its counts at 0 is ASSERTED after four times its decimation of sweeps of result condition, and
not before (R16). -/
theorem Monitor.iterate_condition (m : Monitor) (set : MonitorSetting) (cls : Option ConditionClass)
    (hm : set.mode = .filtered) (positive : 0 < set.decimation) (hs : m.state = .clear) (hf : m.filter = 0)
    (hd : m.decimation = 0) (k : Nat) (hk : k ≤ 4 * set.decimation) :
    (fun x : Monitor => (x.takeSweep set false .condition cls).monitor)^[k] m =
      if k = 4 * set.decimation then { m with state := .asserted, detected := true, cls := cls }
      else { m with filter := k / set.decimation, decimation := k % set.decimation } := by
  rw [m.iterate_disagreeing set cls _ hm positive (.inl hs) (fun x hx h => ?_) hf hd k hk]
  · simp [Monitor.evaluate_filtered_condition, hs, Monitor.enter, hf]
  · rw [x.evaluate_filtered_condition cls (hx.trans hs), if_pos h]

/-- An ASSERTED monitor with its counts at 0 is CLEAR after four times its decimation of clean sweeps, and not before
(R16). -/
theorem Monitor.iterate_clean (m : Monitor) (set : MonitorSetting) (cls : Option ConditionClass)
    (hm : set.mode = .filtered) (positive : 0 < set.decimation) (hs : m.state = .asserted) (hf : m.filter = 0)
    (hd : m.decimation = 0) (k : Nat) (hk : k ≤ 4 * set.decimation) :
    (fun x : Monitor => (x.takeSweep set false .clean cls).monitor)^[k] m =
      if k = 4 * set.decimation then { m with state := .clear }
      else { m with filter := k / set.decimation, decimation := k % set.decimation } := by
  rw [m.iterate_disagreeing set cls _ hm positive (.inr hs) (fun x hx h => ?_) hf hd k hk]
  · simp [Monitor.evaluate_clean, hs, hf]
  · rw [x.evaluate_clean cls _ (hx.trans hs), if_pos h]

/-- Settles O22: the evaluations by their two tests, a FILTERED monitor's sweeps by induction on their number, and every
single sweep by the state and the result it meets. -/
theorem monitorsFilterTheirConditions : Obligations.MonitorsFilterTheirConditions := by
  refine ⟨fun c x y => ?_, fun m set cls k hm positive => ⟨fun hf hd hk => ?_, fun e => ?_⟩,
    fun m set held e cls => ⟨fun hm hh => ?_, fun hh hs => ?_, fun hs => ?_, fun hs h => ?_, fun hs h => ?_⟩⟩
  · obtain ⟨lossCondition, lossClean⟩ := c.evalLoss_iff x
    obtain ⟨overCondition, overClean⟩ := c.evalOvervolt_iff x
    obtain ⟨angleCondition, angleClean⟩ := c.evalAngle_iff x y
    exact ⟨lossCondition, lossClean, overCondition, overClean, angleCondition, angleClean, c.angleClass_iff x y⟩
  · exact ⟨fun hs => m.iterate_condition set cls hm positive hs hf hd k hk,
      fun hs => m.iterate_clean set cls hm positive hs hf hd k hk⟩
  · refine ⟨fun hs h => ?_, fun due => ⟨fun he hs => ?_, fun hs he hc => ?_, fun hs he => ?_, fun hs he => ?_⟩⟩
    · rw [m.takeSweep_waiting set e cls hs hm h]
      exact ⟨rfl, rfl, rfl⟩
    · rw [m.takeSweep_due set e cls hs hm due,
        Monitor.evaluate_agreeing { m with decimation := 0 } e cls _ hs he]
      exact ⟨rfl, rfl, rfl⟩
    · subst he
      rw [m.takeSweep_due set _ cls (.inr hs) hm due,
        Monitor.evaluate_asserted_condition { m with decimation := 0 } cls _ hs]
      simp [Monitor.stayAsserted, hc]
    · subst he
      rw [m.takeSweep_due set _ cls (.inl hs) hm due,
        Monitor.evaluate_filtered_condition { m with decimation := 0 } cls hs]
      refine ⟨fun h => ?_, fun h => ?_⟩
      · simp [h]
      · simp [h, Monitor.enter]
    · subst he
      rw [m.takeSweep_due set _ cls (.inr hs) hm due,
        Monitor.evaluate_clean { m with decimation := 0 } cls _ hs]
      refine ⟨fun h => ?_, fun h => ?_⟩ <;> simp [h]
  · subst hh
    refine ⟨fun hs he => ?_, fun hs he => ?_, fun hs he h => ?_, fun hs he h => ?_, fun hs he => ?_, fun hs he hc => ?_,
      fun hs he hc => ?_⟩
    · subst he
      rw [m.takeSweep_direct set _ cls (.inl hs) hm, m.evaluate_direct_condition cls hs]
      exact ⟨rfl, rfl, rfl⟩
    · rw [m.takeSweep_direct set e cls (.inl hs) hm, m.evaluate_agreeing e cls _ (.inl hs) (by cases e <;> simp_all)]
      exact ⟨rfl, rfl, rfl⟩
    · subst he
      rw [m.takeSweep_direct set _ cls (.inr hs) hm, m.evaluate_clean cls _ hs]
      simp [h]
    · subst he
      rw [m.takeSweep_direct set _ cls (.inr hs) hm, m.evaluate_clean cls _ hs]
      simp [h]
    · rw [m.takeSweep_direct set e cls (.inr hs) hm, m.evaluate_agreeing e cls _ (.inr hs) (.inl he)]
      exact ⟨rfl, rfl, rfl⟩
    · rw [m.takeSweep_direct set e cls (.inr hs) hm,
        m.evaluate_agreeing e cls _ (.inr hs) (.inr (.inr ⟨hs, he, hc⟩))]
      exact ⟨rfl, rfl, rfl⟩
    · subst he
      rw [m.takeSweep_direct set _ cls (.inr hs) hm, m.evaluate_asserted_condition cls _ hs]
      simp [Monitor.stayAsserted, hc]
  · subst hh
    rw [m.takeSweep_held set e cls hs]
    exact ⟨rfl, rfl, rfl⟩
  · rw [m.takeSweep_disabled set e cls held hs]
    exact ⟨rfl, rfl, rfl⟩
  · rw [m.takeSweep_settling set e cls held hs]
    simp [h]
  · rw [m.takeSweep_settling set e cls held hs]
    simp [h]

end Sys2Proof.Machine

namespace Sys2Proof.Machine

/-! ## The cab's own requests (R172) -/

/-- A request of a kind above 0x19 is permitted to the CAB alone. -/
theorem Role.permits_cab_alone (r : Role) (kind : Byte) (hk : 0x19 < kind.toNat) :
    r.permits kind = (r == .cab) := by
  simp only [Role.permits]
  rw [if_neg (by omega), if_neg (by omega), if_neg (by omega)]

/-- A request that is the CAB's alone reaches its block from the CAB and is refused to every other role. -/
theorem State.actRequest_of_cab {s : State} {p : PortId} (h : s.Hears p) (kind tag : Byte) (take : State → Answer)
    (hk : 0x19 < kind.toNat) :
    (s.role p = .cab → s.actRequest p kind tag take =
      .next ((take (s.hunt p)).state.answered p kind tag (take (s.hunt p)).code (take (s.hunt p)).content)) ∧
    (s.role p ≠ .cab → s.actRequest p kind tag take = .next ((s.hunt p).answered p kind tag .roleRefused)) :=
  ⟨fun cab => s.actRequest_of_takes p kind tag take h (by simp [Role.permits_cab_alone _ _ hk, cab]),
    fun other => s.actRequest_of_refused p kind tag take h (by simp [Role.permits_cab_alone _ _ hk, other])⟩

/-- A policy byte above 2 names no policy (R51, R181). -/
theorem policyOf_none (b : Byte) (h : 2 < b.toNat) : policyOf b = none := by
  unfold policyOf
  split
  case h_4 => rfl
  all_goals omega

/-- Settles O32: both requests are the CAB's alone, and SET_HISTORY_POLICY looks at the mode before the value. -/
theorem flagsAndPolicyAreSet : Obligations.FlagsAndPolicyAreSet := by
  refine ⟨fun p tag s hears => ?_, fun p tag value s hears => ?_⟩
  · obtain ⟨cab, other⟩ := State.actRequest_of_cab hears 0x2D tag answerClearFlags (by decide)
    by_cases hr : s.role p = .cab
    · exact (cab hr).trans (by rw [if_pos hr]; rfl)
    · exact (other hr).trans (by rw [if_neg hr])
  · obtain ⟨cab, other⟩ := State.actRequest_of_cab hears 0x2A tag (answerSetHistoryPolicy value) (by decide)
    refine ⟨other, fun hr => ⟨fun halt => (cab hr).trans ?_, fun mode => ⟨fun large => (cab hr).trans ?_,
      fun q named => (cab hr).trans ?_⟩⟩⟩
    · simp [answerSetHistoryPolicy, halt, State.refuse]
    · simp [answerSetHistoryPolicy, mode, policyOf_none value large, State.refuse]
    · have : policyOf value = some q := by subst named; cases q <;> rfl
      simp [answerSetHistoryPolicy, mode, this, State.ok]

/-! ## Pole records (R24 to R27) -/

/-- The stow test passes above the stow level in STOWED and at or below it elsewhere (R25). -/
theorem PoleState.stowTest_eq (q : PoleState) (level : Nat) (x : Int) :
    q.stowTest level x = (decide (x ≤ level) == (q != .stowed)) := by
  have above : decide (x > level) = !decide (x ≤ level) := by
    rw [← decide_not]
    exact decide_eq_decide.2 Int.not_le.symm
  cases q <;> simp only [PoleState.stowTest, above] <;> cases decide (x ≤ level) <;> rfl

/-- Settles O23: an assertion by the pole's state and the class, an elevation by whether it is held, by the state, by the
stow test and by the count. -/
theorem poleRecordsFollowTheirTables : Obligations.PoleRecordsFollowTheirTables := by
  intro r p cls level x settled
  refine ⟨?_, rfl, fun hs => ?_, fun hs fails => ?_, fun hs passes h => ?_, fun hs passes h => ?_⟩
  · cases hs : r.state with
    | raising => cases cls <;> simp [PoleRecord.takeAssertion, PoleRecord.enter, hs]
    | _ => simp [PoleRecord.takeAssertion, PoleRecord.enter, hs]
  · simp [PoleRecord.takeElevation, hs, PoleRecord.enter]
  · have : r.state.stowTest level x = false := by
      rw [PoleState.stowTest_eq, fails]
      cases r.state <;> rfl
    simp [PoleRecord.takeElevation, hs, this]
  · have : r.state.stowTest level x = true := by rw [PoleState.stowTest_eq, passes, beq_self_eq_true]
    simp [PoleRecord.takeElevation, hs, this, h]
  · have : r.state.stowTest level x = true := by rw [PoleState.stowTest_eq, passes, beq_self_eq_true]
    cases hq : r.state <;> simp_all [PoleRecord.takeElevation, PoleRecord.enter, PoleState.afterStow]

end Sys2Proof.Machine

namespace Sys2Proof.Machine

/-! ## The signals of a change of contact state (R32, R33, R43) -/

section
variable (s : State) (b a : ContactState)

@[simp] theorem State.lineSignals_same : s.lineSignals a a = s := by simp [State.lineSignals]
@[simp] theorem State.sectionSignals_same : s.sectionSignals a a = s := by simp [State.sectionSignals]
@[simp] theorem State.endLineLost_same : s.endLineLost a a = s := by
  simp only [State.endLineLost, and_not_self, if_false, ne_eq]

/-- Between two states other than CONTACT neither a cut nor a restore is sent (R32). -/
theorem State.lineSignals_elsewhere (hb : b ≠ .contact) (ha : a ≠ .contact) : s.lineSignals b a = s := by
  simp [State.lineSignals, hb, ha]

/-- Entry to CONTACT is a restore (R32). -/
theorem State.lineSignals_restore (hb : b ≠ .contact) : s.lineSignals b .contact = s.takeRestore := by
  simp [State.lineSignals, hb]

/-- A change to a state other than GAP and CONTACT drops the expectation (R33, R65). -/
theorem State.sectionSignals_drop (hne : b ≠ a) (hg : a ≠ .gap) (hc : a ≠ .contact) :
    s.sectionSignals b a = s.sectionDrop := by
  cases a <;> simp_all [State.sectionSignals]

/-- Entry to CONTACT from a state other than GAP is no signal to the section unit (R33). -/
theorem State.sectionSignals_restore (hb : b ≠ .gap) : s.sectionSignals b .contact = s := by
  simp only [State.sectionSignals, hb, if_false, ite_self]

/-- The current section moves on the end of a gap alone (R63). -/
theorem State.sectionSignals_current (h : b = .gap → a ≠ .contact) :
    (s.sectionSignals b a).sections.current = s.sections.current := by
  cases a with
  | contact => rw [s.sectionSignals_restore b fun hb => h hb rfl]
  | gap =>
    simp only [State.sectionSignals]
    split
    · rfl
    · simp only [State.gapSeen]
      split <;> rfl
  | _ =>
    simp only [State.sectionSignals]
    split <;> rfl

end

/-! ## The events (R152, R153) -/

/-- An ADVISORY event's first step touches the fault table alone (R153, R157). -/
theorem State.latchEvent_advisory (s : State) (e : Event) (h : e.cls = .advisory) :
    s.latchEvent e = { s with router := { s.router with
      faults := s.router.faults.set e.kind.index ((s.router.faults[e.kind.index]).record e s.allot.frame) } } := by
  simp [State.latchEvent, h]

/-- An event whose action is routed is latched, acts and is notified (R152). -/
theorem State.handleEvent_acting (s : State) (e : Event) (a : Action) (h : e.kind.action = some a)
    (on : (s.router.routing[e.kind.index]).action = true) : s.handleEvent e =
      ((s.latchEvent e).perform a).queueTo (fun p => (s.router.routing[e.kind.index]).mask.getLsbD p) (e.notice true) := by
  simp only [State.handleEvent, on, h, if_true]

/-- An event whose action is not routed is latched and notified, and does nothing else (R152). -/
theorem State.handleEvent_unrouted (s : State) (e : Event) (off : (s.router.routing[e.kind.index]).action = false) :
    s.handleEvent e =
      (s.latchEvent e).queueTo (fun p => (s.router.routing[e.kind.index]).mask.getLsbD p) (e.notice false) := by
  simp only [State.handleEvent, off, Bool.false_eq_true, if_false]

/-- The fault table after an event, whatever the event routes (R153). -/
theorem State.handleEvent_faults (s : State) (e : Event) : (s.handleEvent e).router.faults =
    s.router.faults.set e.kind.index ((s.router.faults[e.kind.index]).record e s.allot.frame) := by
  have latched : (s.latchEvent e).router.faults =
      s.router.faults.set e.kind.index ((s.router.faults[e.kind.index]).record e s.allot.frame) := by
    simp only [State.latchEvent]
    split
    · simp only [State.changeMode, State.notify_router]
      split <;> simp
    · rfl
  simp only [State.handleEvent]
  split <;> simpa using latched

/-- An ADVISORY event leaves the mode (R157). -/
theorem State.handleEvent_mode (s : State) (e : Event) (h : e.cls = .advisory) :
    (s.handleEvent e).router.mode = s.router.mode := by
  simp only [State.handleEvent]
  split <;> simp [State.latchEvent_advisory _ _ h]

/-! ## The active list after a raise and after an end (R40, R42, R43) -/

section
variable (u : AlarmUnit) (k : AlarmKey) (e : AlarmEntry)

@[simp] theorem AlarmUnit.recordHistory_find : (u.recordHistory e).find k = u.find k := by
  simp only [AlarmUnit.recordHistory]
  split
  · rfl
  all_goals split <;> rfl

@[simp] theorem AlarmUnit.followRepeats_find (n : BitVec 16) (r : Nat) : (u.followRepeats n r).find k = u.find k := rfl

theorem setRepeats_length (n : BitVec 16) (r : Nat) (l : List HistoryEntry) : (setRepeats n r l).length = l.length := by
  induction l with
  | nil => rfl
  | cons x l ih => simp only [setRepeats]; split <;> simp [ih]

/-- A repeat adds nothing to the history (R50). -/
@[simp] theorem AlarmUnit.followRepeats_history_length (n : BitVec 16) (r : Nat) :
    (u.followRepeats n r).history.length = u.history.length := by
  simp [AlarmUnit.followRepeats, setRepeats_length]

variable {u k e}

theorem AlarmUnit.key_of_find (h : u.find k = some e) : e.key = k := by
  simpa using List.find?_some h

/-- A replaced entry is found by its key (R37). -/
theorem AlarmUnit.find_replace {old : AlarmEntry} (h : u.find e.key = some old) : (u.replace e).find e.key = some e := by
  have replaced (l : List AlarmEntry) (h : l.find? (fun x => x.key = e.key) = some old) :
      (l.map fun x => if x.key = e.key then e else x).find? (fun x => x.key = e.key) = some e := by
    induction l with
    | nil => simp at h
    | cons x l ih =>
      by_cases hx : x.key = e.key
      · simp [hx]
      · simp only [List.find?_cons, hx, decide_false, List.map_cons, if_false] at h ⊢
        exact ih h
  exact replaced u.active h

/-- An entry added for a key that had none is found by it (R40). -/
theorem AlarmUnit.find_append (h : u.find e.key = none) (c : BitVec 16) :
    ({ u with active := u.active ++ [e], counter := c } : AlarmUnit).find e.key = some e := by
  simp only [AlarmUnit.find] at h ⊢
  rw [List.find?_append, h]
  simp

end

/-- A raise of a key without entry puts a new one on the list (R40, R41). -/
theorem State.enterAlarm_find_new (s : State) (k : AlarmKey) (cls : Option ConditionClass) (b : ContactState) (n : Nat)
    (h : s.alarm.find k = none) : (s.enterAlarm k cls b n).alarm.find k =
      some ⟨s.alarm.nextNumber, k, cls, .activeUnack, s.allot.frame, s.snapshot k b n, 0, none⟩ := by
  simp only [State.enterAlarm, h, State.changeAlarms_alarm, AlarmUnit.recordHistory_find]
  exact AlarmUnit.find_append h _

/-- A raise of a key with an entry repeats it in its place and adds nothing to the history (R42). -/
theorem State.enterAlarm_find_repeat (s : State) (k : AlarmKey) (cls : Option ConditionClass) (b : ContactState) (n : Nat)
    (old : AlarmEntry) (h : s.alarm.find k = some old) :
    (s.enterAlarm k cls b n).alarm.find k = some
        { old with repeats := satSucc 255 old.repeats, state := .activeUnack, ackPort := none, cls := cls,
                   raiseFrame := s.allot.frame, snapshot := s.snapshot k b n } ∧
      (s.enterAlarm k cls b n).alarm.history.length = s.alarm.history.length := by
  have key := AlarmUnit.key_of_find h
  subst key
  simp only [State.enterAlarm, h, State.changeAlarms_alarm, AlarmUnit.followRepeats_find,
    AlarmUnit.followRepeats_history_length]
  exact ⟨AlarmUnit.find_replace h, rfl⟩

/-- The alarm unit after a condition end of a key (R43). -/
def AlarmUnit.ended (u : AlarmUnit) (k : AlarmKey) : AlarmUnit :=
  match u.find k with
  | none => u
  | some e =>
    match e.state with
    | .activeUnack => u.replace { e with state := .goneUnack }
    | .activeAck => u.remove k
    | .goneUnack => u

@[simp] theorem State.conditionEnd_alarm (s : State) (k : AlarmKey) : (s.conditionEnd k).alarm = s.alarm.ended k := by
  cases h : s.alarm.find k with
  | none => simp [State.conditionEnd, AlarmUnit.ended, h]
  | some e => cases hs : e.state <;> simp [State.conditionEnd, AlarmUnit.ended, h, hs]

/-- The end of an unacknowledged condition leaves its entry as gone (R43). -/
theorem AlarmUnit.ended_find {u : AlarmUnit} {k : AlarmKey} {e : AlarmEntry} (h : u.find k = some e)
    (hs : e.state = .activeUnack) : (u.ended k).find k = some { e with state := .goneUnack } := by
  have key := AlarmUnit.key_of_find h
  subst key
  simp only [AlarmUnit.ended, h, hs]
  exact AlarmUnit.find_replace (e := { e with state := .goneUnack }) h

/-! ## What LOWER leaves (R28) -/

section
variable (u : ContactUnit) (o : Option Nat)

theorem PoleRecord.lowerNow_state (r : PoleRecord) :
    r.lowerNow.state = if r.state = .onWire ∨ r.state = .raising then .lowering else r.state := by
  simp only [PoleRecord.lowerNow]
  split <;> rfl

/-- LOWER leaves the monitors and the settings, and what the poles' states make of the rest (R28, R30). -/
theorem ContactUnit.lowered_frame : (u.lowered o).monitors = u.monitors ∧ (u.lowered o).settings = u.settings ∧
    (u.lowered o).poles.pos.state = u.poles.pos.lowerNow.state ∧
    (u.lowered o).poles.neg.state = u.poles.neg.lowerNow.state := by
  simp only [ContactUnit.lowered]
  split <;> simp [PerPole.get, PerPole.map]

/-- No pole is ON_WIRE after LOWER: the contact state is DROPPED with a pole DEWIRED, and OFF_WIRE otherwise (R30). -/
theorem ContactUnit.lowered_contact : (u.lowered o).contact =
    if u.poles.pos.state = .dewired ∨ u.poles.neg.state = .dewired then .dropped else .offWire := by
  obtain ⟨-, -, hpos, hneg⟩ := u.lowered_frame o
  rw [(u.lowered_lawful o).derived]
  simp only [ContactUnit.derive, PerPole.any, PerPole.all, hpos, hneg, PoleRecord.lowerNow_state]
  grind

/-- The lowering timer after LOWER: started where it was stopped and a pole is LOWERING, running on where it ran, and
stopped while no pole is LOWERING (R28). -/
theorem ContactUnit.lowered_loweringTimer : (u.lowered o).loweringTimer =
    if (u.lowered o).anyLowering then
      if u.loweringTimer = .stopped then .running u.settings.lowerTimeMax else u.loweringTimer
    else .stopped := by
  have settled := ContactUnit.settle_loweringTimer { u with poles := u.poles.map PoleRecord.lowerNow } o
  rw [← ContactUnit.settle_anyLowering _ o] at settled
  set v := ContactUnit.settle { u with poles := u.poles.map PoleRecord.lowerNow } o with hv
  have settings : v.settings = u.settings := rfl
  have lowered : u.lowered o =
      if v.anyLowering && v.loweringTimer == .stopped then
        { v with loweringTimer := .running v.settings.lowerTimeMax } else v := rfl
  rw [lowered]
  cases lowering : v.anyLowering with
  | false => simp [settled, lowering]
  | true =>
    simp only [lowering, if_true] at settled
    by_cases stopped : u.loweringTimer = .stopped
    · simp only [settled, stopped, settings, Bool.true_and, beq_self_eq_true, if_true]
      exact (if_pos lowering).symm
    · simp [settled, stopped, lowering]

end

/-- LOWER queues its order, puts the lowered monitor in place, and then sends what the change of contact state calls for
(R28, R32, R33, R43). -/
theorem State.lowerPoles_eq (s : State) (u : ContactUnit) (hu : u = s.contact.lowered s.sections.gapOverride) :
    s.lowerPoles = (((({ s.notify (.poleOrder .lower) with contact := u } : State).lineSignals s.contact.contact
      u.contact).sectionSignals s.contact.contact u.contact).endLineLost s.contact.contact u.contact).noticeContact
        (u.changedFrom s.contact) := by
  set v := ContactUnit.settle { s.contact with poles := s.contact.poles.map PoleRecord.lowerNow } s.sections.gapOverride
  by_cases h : (v.anyLowering && v.loweringTimer == .stopped) = true
  · have lowered : u = { v with loweringTimer := .running v.settings.lowerTimeMax } := hu.trans (if_pos h)
    subst lowered
    simp only [State.lowerPoles]
    rw [if_pos]
    · rfl
    · exact h
  · have lowered : u = v := hu.trans (if_neg h)
    subst lowered
    simp only [State.lowerPoles]
    rw [if_neg]
    · rfl
    · exact h

end Sys2Proof.Machine

namespace Sys2Proof.Machine

/-- After LOWER the contact state is neither CONTACT, GAP nor LOST. -/
theorem ContactUnit.lowered_contact_ne (u : ContactUnit) (o : Option Nat) :
    (u.lowered o).contact ≠ .contact ∧ (u.lowered o).contact ≠ .gap ∧ (u.lowered o).contact ≠ .lost := by
  rw [u.lowered_contact o]
  split <;> simp

/-- LOWER drops the expectation where the contact state changes, and leaves the rest of the section unit (R33, R65). -/
theorem State.lowerPoles_sections (s : State) : s.lowerPoles.sections =
    if s.contact.contact = s.lowerPoles.contact.contact then s.sections
    else { s.sections with expectation := none } := by
  obtain ⟨notContact, notGap, -⟩ := s.contact.lowered_contact_ne s.sections.gapOverride
  rw [s.lowerPoles_contact, s.lowerPoles_eq _ rfl, State.noticeContact_sections, State.endLineLost_sections]
  split
  · next same => rw [← same]; simp
  · next other => rw [State.sectionSignals_drop _ _ _ other notGap notContact]; simp [State.sectionDrop]

/-- From a state other than CONTACT, LOWER leaves the allotment unit: no cut is sent (R32). -/
theorem State.lowerPoles_allot (s : State) (h : s.contact.contact ≠ .contact) : s.lowerPoles.allot = s.allot := by
  obtain ⟨notContact, notGap, -⟩ := s.contact.lowered_contact_ne s.sections.gapOverride
  rw [s.lowerPoles_eq _ rfl, State.lineSignals_elsewhere _ _ _ h notContact, State.noticeContact_allot,
    State.endLineLost_allot]
  by_cases same : s.contact.contact = (s.contact.lowered s.sections.gapOverride).contact
  · rw [← same]; simp
  · rw [State.sectionSignals_drop _ _ _ same notGap notContact]; simp

/-- LOWER ends the condition of LINE_LOST where the contact state was LOST, and leaves the rest of the list (R31, R43). -/
theorem State.lowerPoles_alarm (s : State) :
    s.lowerPoles.alarm = if s.contact.contact = .lost then s.alarm.ended .lineLost else s.alarm := by
  obtain ⟨-, -, notLost⟩ := s.contact.lowered_contact_ne s.sections.gapOverride
  have noticed (t : State) (c : Bool) : (t.noticeContact c).alarm = t.alarm := by simp
  rw [s.lowerPoles_eq _ rfl, noticed, State.endLineLost]
  by_cases lost : s.contact.contact = .lost
  · rw [if_pos ⟨lost, notLost⟩, if_pos lost]; simp
  · rw [if_neg fun h => lost h.1, if_neg lost]; simp

/-! ## An order that waits (R175) -/

/-- A waiting notice stays in its queue while notices of other kinds join. -/
theorem mem_enqueue_of_mem {n x : Notice} {q : List Notice} (h : x ∈ q) (hk : x.kind ≠ n.kind) : x ∈ enqueue n q := by
  induction q with
  | nil => simp at h
  | cons m q ih =>
    simp only [enqueue]
    rcases List.mem_cons.1 h with rfl | h
    · rw [if_neg hk]; simp
    · split
      · simp [h]
      · exact List.mem_cons_of_mem _ (ih h)

/-- A POLE_ORDER queued waits with its own content, alone or in the place of an older one (R175). -/
theorem mem_enqueue_poleOrder (o : PoleOrder) (q : List Notice) : Notice.poleOrder o ∈ enqueue (.poleOrder o) q := by
  induction q with
  | nil => simp [enqueue]
  | cons m q ih =>
    simp only [enqueue]
    split
    · next same => cases m <;> simp_all [Notice.kind, Notice.takeIn]
    · exact List.mem_cons_of_mem _ ih

/-- POLE_ORDER(LOWER) waits at a port. -/
def State.LowerWaits (s : State) (q : PortId) : Prop := Notice.poleOrder .lower ∈ (s.ports[q]).queue

section
variable {s : State} {q : PortId}

theorem State.LowerWaits.queueTo (h : s.LowerWaits q) (dest : PortId → Bool) (n : Notice) (hn : n.kind ≠ .poleOrder) :
    (s.queueTo dest n).LowerWaits q := by
  simp only [State.LowerWaits, Fin.getElem_fin, State.queueTo_port] at h ⊢
  split
  · exact mem_enqueue_of_mem h fun e => hn e.symm
  · exact h

theorem State.LowerWaits.notify (h : s.LowerWaits q) (n : Notice) (hn : n.kind ≠ .poleOrder) : (s.notify n).LowerWaits q :=
  h.queueTo _ n hn

theorem State.LowerWaits.setAux (h : s.LowerWaits q) (a : Sequencer) : (s.setAux a).LowerWaits q := by
  simp only [State.setAux]
  split
  · exact h
  · exact State.LowerWaits.notify (s := { s with aux := a }) h _ (by simp [Notice.kind])

theorem State.LowerWaits.takeCut (h : s.LowerWaits q) : s.takeCut.LowerWaits q := by
  simp only [State.takeCut, State.publish, State.shedOnCut]
  refine State.LowerWaits.notify (State.LowerWaits.setAux ?_ _) _ (by simp [Notice.kind])
  exact h

theorem State.LowerWaits.changeAlarms (h : s.LowerWaits q) (u : AlarmUnit) : (s.changeAlarms u).LowerWaits q :=
  State.LowerWaits.notify (s := { s with alarm := u }) h _ (by simp [Notice.kind])

theorem State.LowerWaits.conditionEnd (h : s.LowerWaits q) (k : AlarmKey) : (s.conditionEnd k).LowerWaits q := by
  simp only [State.conditionEnd]
  split
  · exact h
  · split
    · exact h.changeAlarms _
    · exact h.changeAlarms _
    · exact h

theorem State.LowerWaits.lineSignals (h : s.LowerWaits q) (b a : ContactState) : (s.lineSignals b a).LowerWaits q := by
  simp only [State.lineSignals]
  split
  · exact h
  · split
    · exact h.takeCut
    · split
      · rw [State.LowerWaits, State.takeRestore_ports]; exact h
      · exact h

theorem State.LowerWaits.endLineLost (h : s.LowerWaits q) (b a : ContactState) : (s.endLineLost b a).LowerWaits q := by
  simp only [State.endLineLost]
  split
  · exact h.conditionEnd _
  · exact h

theorem State.LowerWaits.noticeContact (h : s.LowerWaits q) (c : Bool) : (s.noticeContact c).LowerWaits q := by
  simp only [State.noticeContact]
  split
  · exact h.notify _ (by simp [ContactUnit.notice, Notice.kind])
  · exact h

end

/-- POLE_ORDER(LOWER) waits at every ROOF port after LOWER: nothing that follows withdraws or changes it (R28, R175). -/
theorem State.lowerPoles_lowerWaits (s : State) (q : PortId) (roof : s.role q = .roof) : s.lowerPoles.LowerWaits q := by
  obtain ⟨notContact, notGap, -⟩ := s.contact.lowered_contact_ne s.sections.gapOverride
  set u := s.contact.lowered s.sections.gapOverride with hu
  have ordered : ({ s.notify (.poleOrder .lower) with contact := u } : State).LowerWaits q := by
    show Notice.poleOrder .lower ∈ ((s.notify (.poleOrder .lower)).ports[q]).queue
    simp only [State.notify, Fin.getElem_fin, State.queueTo_port]
    rw [if_pos (by rw [roof]; rfl)]
    exact mem_enqueue_poleOrder _ _
  have signalled := ordered.lineSignals s.contact.contact u.contact
  rw [s.lowerPoles_eq u hu]
  refine State.LowerWaits.noticeContact (State.LowerWaits.endLineLost ?_ _ _) _
  by_cases same : s.contact.contact = u.contact
  · rw [← same] at signalled ⊢; simpa using signalled
  · rw [State.sectionSignals_drop _ _ _ same notGap notContact]; exact signalled

/-! ## The pole orders (R28, R29) -/

/-- The raise interlock is released exactly while every entry of a pole kind is ACTIVE_ACK (R46). -/
theorem AlarmUnit.interlock_eq_false (u : AlarmUnit) : u.interlock = false ↔
    ∀ e ∈ u.active, (∃ q, e.key = .poleDrop q ∨ e.key = .raiseMiss q) → e.state = .activeAck := by
  have engages (e : AlarmEntry) : e.engages = false ↔
      ((∃ q, e.key = .poleDrop q ∨ e.key = .raiseMiss q) → e.state = .activeAck) := by
    cases hk : e.key <;> cases hs : e.state <;> simp [AlarmEntry.engages, AlarmKey.pole, hk, hs]
  simp only [AlarmUnit.interlock, List.any_eq_false, Bool.not_eq_true, engages]

/-- RAISE is taken with both poles STOWED and the interlock released (R29, R46). -/
theorem State.canRaise_iff (s : State) : s.canRaise = true ↔
    s.contact.poles.pos.state = .stowed ∧ s.contact.poles.neg.state = .stowed ∧
      ∀ e ∈ s.alarm.active, (∃ q, e.key = .poleDrop q ∨ e.key = .raiseMiss q) → e.state = .activeAck := by
  rw [← AlarmUnit.interlock_eq_false]
  simp [State.canRaise, PerPole.all, and_assoc]

/-- Settles O27: LOWER by what it leaves of the contact monitor and by the order that waits; RAISE by its two
conditions. -/
theorem lowerAndRaiseOrderThePoles : Obligations.LowerAndRaiseOrderThePoles := by
  refine ⟨fun p tag s hears _ => ?_, fun p tag s hears => ?_⟩
  · obtain ⟨cab, other⟩ := State.actRequest_of_cab hears 0x32 tag answerLower (by decide)
    refine ⟨other, fun hr => ⟨(s.hunt p).lowerPoles, cab hr, ?_⟩⟩
    have contact : (s.hunt p).lowerPoles.contact = s.contact.lowered s.sections.gapOverride := by simp
    obtain ⟨monitors, -, pos, neg⟩ := s.contact.lowered_frame s.sections.gapOverride
    have timer := s.contact.lowered_loweringTimer s.sections.gapOverride
    have sections : ∀ c : Prop, [Decidable c] → ∀ u : SectionUnit,
        (if c then u else { u with expectation := none }).current = u.current ∧
          (if c then u else { u with expectation := none }).table = u.table :=
      fun c _ u => by split <;> exact ⟨rfl, rfl⟩
    rw [contact]
    refine ⟨?_, ?_, (s.contact.lowered_lawful _).derived, monitors, fun lowering stopped => ?_,
      fun lowering moving => ?_, fun none => ?_, fun q roof => ?_, by simp, by simp, by simp, ?_, ?_⟩
    · rw [pos, PoleRecord.lowerNow_state]; simp
    · rw [neg, PoleRecord.lowerNow_state]; simp
    · rw [timer, if_pos lowering, if_pos stopped]
    · rw [timer, if_pos lowering, if_neg moving]
    · rw [timer, none]; rfl
    · exact (s.hunt p).lowerPoles_lowerWaits q (by simpa using roof)
    · rw [State.lowerPoles_sections]; exact (sections _ _).1
    · rw [State.lowerPoles_sections]; exact (sections _ _).2
  · obtain ⟨cab, other⟩ := State.actRequest_of_cab hears 0x33 tag answerRaise (by decide)
    refine ⟨other, fun hr free => (cab hr).trans ?_, fun hr locked => (cab hr).trans ?_⟩
    · have raisable : (s.hunt p).canRaise = true := (State.canRaise_iff _).2 free
      have roofs : (s.hunt p).notify (.poleOrder .raise) =
          (s.hunt p).queueTo (fun q => s.role q == .roof) (.poleOrder .raise) := by
        simp [State.notify, Notice.kind, Role.receives]
      simp [answerRaise, raisable, roofs, State.ok]
    · have refused : (s.hunt p).canRaise = false :=
        Bool.eq_false_iff.2 fun h => locked ((State.canRaise_iff _).1 h)
      simp [answerRaise, refused, State.refuse]

end Sys2Proof.Machine

namespace Sys2Proof.Machine

/-! ## The expiries of the contact monitor's timers (R26, R28, R31) -/

/-- An ADVISORY event that routes no action touches the fault table and the queues alone (R152, R153). -/
theorem State.handleEvent_unacting (s : State) (e : Event) (ha : e.cls = .advisory)
    (hk : (s.router.routing[e.kind.index]).action = false ∨ e.kind.action = none) :
    (s.handleEvent e).contact = s.contact ∧ (s.handleEvent e).alarm = s.alarm ∧
      (s.handleEvent e).sections = s.sections ∧ (s.handleEvent e).allot = s.allot := by
  have latched : s.handleEvent e =
      (s.latchEvent e).queueTo (fun p => (s.router.routing[e.kind.index]).mask.getLsbD p) (e.notice false) :=
    hk.elim (s.handleEvent_unrouted e) (s.handleEvent_plain e)
  rw [latched, s.latchEvent_advisory e ha]
  exact ⟨rfl, rfl, rfl, rfl⟩

/-- An ADVISORY event that routes LOWER_POLES leaves what LOWER leaves (R149, R152). -/
theorem State.handleEvent_lowering (s : State) (e : Event) (ha : e.cls = .advisory) (hk : e.kind.action = some .lowerPoles)
    (on : (s.router.routing[e.kind.index]).action = true) :
    (s.handleEvent e).contact = s.lowerPoles.contact ∧ (s.handleEvent e).alarm = s.lowerPoles.alarm ∧
      (s.handleEvent e).sections = s.lowerPoles.sections ∧
      (s.contact.contact ≠ .contact → (s.handleEvent e).allot = s.allot) := by
  rw [s.handleEvent_acting e _ hk on, s.latchEvent_advisory e ha]
  refine ⟨?_, ?_, ?_, fun h => ?_⟩
  · rw [s.lowerPoles_contact]; exact State.lowerPoles_contact _
  · rw [s.lowerPoles_alarm]; exact State.lowerPoles_alarm _
  · rw [s.lowerPoles_sections, s.lowerPoles_contact]
    exact (State.lowerPoles_sections _).trans (by rw [State.lowerPoles_contact])
  · exact State.lowerPoles_allot _ h

/-- A hand-over of nothing sends the signals of the change of contact state, and at most GAP_UNEXPECTED with it (R14,
R31). -/
theorem State.handOver_nothing (s : State) (before : ContactUnit) (n : Nat) :
    let after := s.contact.derive
    let signalled := (s.settleContact.lineSignals before.contact after).sectionSignals before.contact after
    (s.handOver before n {}).contact = s.contact.settle s.sections.gapOverride ∧
      (s.handOver before n {}).sections = signalled.sections ∧ (s.handOver before n {}).allot = signalled.allot ∧
      (s.handOver before n {}).router.mode = s.router.mode := by
  intro after signalled
  have event (c : Prop) [Decidable c] (t : State) (e : Event) (ha : e.cls = .advisory) (hk : e.kind.action = none) :
      (if c then t.handleEvent e else t).contact = t.contact ∧ (if c then t.handleEvent e else t).sections = t.sections ∧
        (if c then t.handleEvent e else t).allot = t.allot ∧
        (if c then t.handleEvent e else t).router.mode = t.router.mode := by
    split
    · obtain ⟨contact, -, sections, allot⟩ := t.handleEvent_unacting e ha (.inr hk)
      exact ⟨contact, sections, allot, t.handleEvent_mode e ha⟩
    · exact ⟨rfl, rfl, rfl, rfl⟩
  obtain ⟨contact, sections, allot, mode⟩ := event
    ((before.contact != .gap && after == .gap && s.sections.expectation.isNone) = true)
    (signalled.endLineLost before.contact after) ⟨.gapUnexpected, .advisory, .sectionId signalled.sections.current⟩ rfl rfl
  have result : s.handOver before n {} =
      (if (before.contact != .gap && after == .gap && s.sections.expectation.isNone) = true then
        (signalled.endLineLost before.contact after).handleEvent
          ⟨.gapUnexpected, .advisory, .sectionId signalled.sections.current⟩
      else signalled.endLineLost before.contact after).noticeContact (s.settleContact.contact.changedFrom before) := by
    simp only [State.handOver, Bool.false_eq_true, if_false, List.foldl_nil, State.endLineLost_sections]
    rfl
  rw [result]
  simp only [State.noticeContact_contact, State.noticeContact_sections, State.noticeContact_allot,
    State.noticeContact_router, contact, sections, allot, mode, State.endLineLost_contact, State.endLineLost_sections,
    State.endLineLost_allot, State.endLineLost_router]
  simp [signalled]

/-- A restore starts the reclose timer, unless t_rc is 0 (R91). -/
theorem State.takeRestore_allot (s : State) : s.takeRestore.allot =
    { s.allot with reclose := if s.allot.line.tRc = 0 then s.allot.reclose else .running s.allot.line.tRc } := by
  by_cases h : s.allot.line.tRc = 0 <;> simp [State.takeRestore, h]

/-- The seat timer's expiry puts the pole ON_WIRE, and the signals follow (R26, R30, R32). -/
theorem State.seatExpired_raising (s : State) (p : Pole) (lawful : s.contact.Lawful)
    (raising : (s.contact.poles.get p).state = .raising) (runs : (s.contact.poles.get p).seat.isRunning = true) :
    let t := s.seatExpired p
    t.contact.poles.get p = (s.contact.poles.get p).enter .onWire ∧ t.contact.Lawful ∧
      t.contact.monitors = s.contact.monitors ∧
      (s.contact.contact ≠ .contact → t.contact.contact = .contact →
        t.allot = { s.allot with
          reclose := if s.allot.line.tRc = 0 then s.allot.reclose else .running s.allot.line.tRc }) ∧
      t.sections.current = s.sections.current ∧ t.router.mode = s.router.mode := by
  intro t
  set u : ContactUnit :=
    { s.contact with poles := s.contact.poles.set p ((s.contact.poles.get p).enter .onWire) } with hu
  have expired : t = ({ s with contact := u } : State).handOver s.contact s.allot.record.tractionTotal {} := by
    show s.seatExpired p = _
    simp only [State.seatExpired, raising, runs, beq_self_eq_true, Bool.and_self, if_true]
    rfl
  have fromGap : s.contact.contact ≠ .gap := by
    intro gap
    obtain ⟨pos, neg, -⟩ := s.contact.derive_without_line (.inl (lawful.derived.symm.trans gap))
    cases p <;> simp_all [PerPole.get]
  obtain ⟨contact, sections, allot, mode⟩ :=
    ({ s with contact := u } : State).handOver_nothing s.contact s.allot.record.tractionTotal
  rw [← expired] at contact sections allot mode
  refine ⟨?_, ?_, ?_, fun other restored => ?_, ?_, mode⟩
  · rw [contact]
    cases p <;>
      simp [PerPole.get, ContactUnit.seatOf, hu, PerPole.set, PoleRecord.enter]
  · rw [contact]; exact u.settle_lawful _
  · rw [contact]; rfl
  · rw [contact] at restored
    have after : u.derive = .contact := restored
    rw [allot]
    simp only [after]
    rw [State.sectionSignals_restore _ _ fromGap, State.lineSignals_restore _ _ other, State.takeRestore_allot]
    rfl
  · rw [sections]
    simp only
    rw [State.sectionSignals_current _ _ _ fun gap => absurd gap fromGap, State.lineSignals_sections]
    rfl

/-- Settles O24: a seat timer that runs leaves GAP out of the states before, so the restore is the only signal. -/
theorem seatAndRecloseTimersExpire : Obligations.SeatAndRecloseTimersExpire := by
  refine ⟨fun p s up law => ⟨fun raising runs => ?_, fun idle => ?_⟩, fun s up runs => ?_⟩
  · obtain ⟨pole, lawful, monitors, allot, current, mode⟩ :=
      s.seatExpired_raising p ((s.contactLaw_iff).1 law up) raising runs
    refine ⟨(s.seatExpired p).beginWaiting, s.act_of_up _ up, pole, lawful.derived, monitors, allot, ?_, ?_, current, mode⟩
    · simp only [State.seatExpired]; split <;> simp
    · simp only [State.seatExpired]; split <;> simp
  · have unowned : s.seatExpired p = s := by
      simp only [State.seatExpired]
      rcases idle with h | h <;> simp [h]
    have taken := s.act_of_up (fun t => t.seatExpired p) up
    simp only [unowned] at taken
    exact taken
  · exact (s.act_of_up _ up).trans (by simp only [runs, if_true])

/-! ## The gap timer and the lowering timer -/

/-- A hand-over of one alarm of the vehicle, with no gap entered, sends the signals of the change of contact state and
then raises the alarm (R14, R27). -/
theorem State.handOver_raise (s : State) (before : ContactUnit) (n : Nat) (k : AlarmKey)
    (noGap : before.contact = .gap ∨ s.contact.derive ≠ .gap) :
    let after := s.contact.derive
    s.handOver before n { vehicleAlarms := [.raised k none] } =
      ((((s.settleContact.lineSignals before.contact after).sectionSignals before.contact after).endLineLost
        before.contact after).raiseAlarm k none before.contact n).noticeContact
          (s.settleContact.contact.changedFrom before) := by
  intro after
  have expected : (before.contact != .gap && s.contact.derive == .gap && s.sections.expectation.isNone) = false := by
    rcases noGap with h | h <;> simp [h]
  simp only [State.handOver, State.settleContact_contact, ContactUnit.settle_contact, expected, Bool.false_eq_true,
    if_false, List.foldl_nil, List.foldl_cons, State.takeAlarm]
  rfl

/-- The gap timer's expiry in GAP loses the line, drops the expectation and raises LINE_LOST (R31, R33, R40). -/
theorem State.gapExpired_in_gap (s : State) (runs : s.contact.gapTimer.isRunning = true) (gap : s.contact.contact = .gap)
    (derived : s.contact.derive = .gap) :
    let u : ContactUnit := ({ s.contact with gapTimer := .expired } : ContactUnit).settle s.sections.gapOverride
    u.contact = .lost ∧ ∃ c, s.gapExpired =
      (({ s with contact := u, sections := { s.sections with expectation := none } } : State).raiseAlarm .lineLost none
        .gap s.allot.record.tractionTotal).noticeContact c := by
  intro u
  obtain ⟨pos, neg, loss, -⟩ := s.contact.derive_without_line (.inl derived)
  obtain ⟨v, hv⟩ : ∃ v : ContactUnit, v = { s.contact with gapTimer := .expired } := ⟨_, rfl⟩
  have lost : v.derive = .lost := by rw [hv]; exact ContactUnit.derive_of_loss _ pos neg loss
  have expiry : s.gapExpired = ({ s with contact := v } : State).handOver s.contact s.allot.record.tractionTotal
      { vehicleAlarms := [.raised .lineLost none] } := by
    subst hv
    simp only [State.gapExpired, runs, if_true, lost]
  have raised := State.handOver_raise { s with contact := v } s.contact s.allot.record.tractionTotal .lineLost (.inl gap)
  simp only [lost, gap] at raised
  rw [State.lineSignals_elsewhere _ _ _ (by simp) (by simp), State.sectionSignals_drop _ _ _ (by simp) (by simp) (by simp)]
    at raised
  have hu : u = v.settle s.sections.gapOverride := by rw [hv]
  rw [hu]
  exact ⟨lost, _, expiry.trans raised⟩

/-- The latest occurrence of an event's kind is the event's own (R153). -/
theorem State.handleEvent_entry (s : State) (e : Event) :
    (s.handleEvent e).router.faults[e.kind.index] = (s.router.faults[e.kind.index]).record e s.allot.frame := by
  rw [s.handleEvent_faults e]
  simp

/-- LINE_LOST raised anew from LOST: an entry stands, and with LOWER_POLES routed the poles are ordered down and the
condition has ended (R31, R40, R152). -/
theorem State.raiseAlarm_lineLost (s : State) (n : Nat) (lawful : s.contact.Lawful) (lost : s.contact.contact = .lost)
    (new : s.alarm.find .lineLost = none) :
    let t := s.raiseAlarm .lineLost none .gap n
    let e : AlarmEntry := ⟨s.alarm.nextNumber, .lineLost, none, .activeUnack, s.allot.frame, s.snapshot .lineLost .gap n, 0,
      none⟩
    (t.router.faults[2]).lastDetail = .sectionId s.sections.current ∧ t.allot = s.allot ∧
      t.sections.current = s.sections.current ∧ (s.sections.expectation = none → t.sections.expectation = none) ∧
      ((s.router.routing[2]).action = false → t.contact = s.contact ∧ t.alarm.find .lineLost = some e) ∧
      ((s.router.routing[2]).action = true → t.contact.contact = .offWire ∧ t.contact.gapTimer = .stopped ∧
        t.contact.poles.pos.state = .lowering ∧ t.contact.poles.neg.state = .lowering ∧
        t.alarm.find .lineLost = some { e with state := .goneUnack }) := by
  intro t e
  obtain ⟨pos, neg, -⟩ := s.contact.derive_without_line (.inr (lawful.derived.symm.trans lost))
  set y := s.enterAlarm .lineLost none .gap n with hy
  set ev : Event := ⟨.lineLost, .advisory, .sectionId y.sections.current⟩ with hev
  have raised : t = y.handleEvent ev := rfl
  have contact : y.contact = s.contact := s.enterAlarm_contact _ _ _ _
  have sections : y.sections = s.sections := s.enterAlarm_sections _ _ _ _
  have allot : y.allot = s.allot := s.enterAlarm_allot _ _ _ _
  have router : y.router = s.router := s.enterAlarm_router _ _ _ _
  have entry : y.alarm.find .lineLost = some e := s.enterAlarm_find_new _ _ _ _ new
  have detail : (t.router.faults[2]).lastDetail = .sectionId s.sections.current := by
    have := congrArg FaultEntry.lastDetail (y.handleEvent_entry ev)
    rw [← sections]
    exact this
  rw [raised] at detail ⊢
  cases on : (s.router.routing[2]).action with
  | false =>
    obtain ⟨h1, h2, h3, h4⟩ := y.handleEvent_unacting ev rfl (.inl (by rw [router]; exact on))
    rw [h1, h2, h3, h4, contact, sections, allot]
    exact ⟨detail, rfl, rfl, id, fun _ => ⟨rfl, entry⟩, fun h => by simp at h⟩
  | true =>
    obtain ⟨h1, h2, h3, h4⟩ := y.handleEvent_lowering ev rfl rfl (by rw [router]; exact on)
    rw [h4 (by rw [contact, lost]; simp), h3, y.lowerPoles_sections, h2, y.lowerPoles_alarm, h1, y.lowerPoles_contact,
      contact, sections, allot]
    obtain ⟨-, -, hpos, hneg⟩ := s.contact.lowered_frame s.sections.gapOverride
    have after : (s.contact.lowered s.sections.gapOverride).contact = .offWire := by
      rw [s.contact.lowered_contact, pos, neg]; simp
    refine ⟨detail, rfl, ?_, fun none => ?_, fun h => by simp at h, fun _ => ⟨after, ?_, ?_, ?_, ?_⟩⟩
    · split <;> rfl
    · split
      · exact none
      · rfl
    · exact (s.contact.lowered_lawful _).gapStopped (by simp [after]) (by simp [after])
    · rw [hpos, PoleRecord.lowerNow_state, pos]; simp
    · rw [hneg, PoleRecord.lowerNow_state, neg]; simp
    · rw [if_pos lost]
      exact AlarmUnit.ended_find entry rfl

/-- Settles O25: the expiry leaves the line lost and raises LINE_LOST; what the event routes decides the rest. -/
theorem gapExpiryLosesTheLine : Obligations.GapExpiryLosesTheLine := by
  intro s up runs gap derived new action
  obtain ⟨lost, c, expiry⟩ := s.gapExpired_in_gap runs gap derived
  set u := ContactUnit.settle { s.contact with gapTimer := .expired } s.sections.gapOverride with hu
  have lawful : u.Lawful := ContactUnit.settle_lawful _ _
  obtain ⟨pos, neg, -⟩ := u.derive_without_line (.inr (lawful.derived.symm.trans lost))
  obtain ⟨detail, allot, current, expectation, off, on⟩ :=
    State.raiseAlarm_lineLost { s with contact := u, sections := { s.sections with expectation := none } }
      s.allot.record.tractionTotal lawful lost new
  have taken := s.act_of_up State.gapExpired up
  rw [expiry] at taken
  refine ⟨((State.raiseAlarm { s with contact := u, sections := { s.sections with expectation := none } } .lineLost none
    .gap s.allot.record.tractionTotal).noticeContact c).beginWaiting, ?_⟩
  simp only [State.beginWaiting_contact, State.beginWaiting_alarm, State.beginWaiting_sections,
    State.beginWaiting_allot, State.beginWaiting_router, State.noticeContact_contact, State.noticeContact_alarm,
    State.noticeContact_sections, State.noticeContact_allot, State.noticeContact_router]
  cases ha : action with
  | false =>
    obtain ⟨contact, entry⟩ := off ha
    rw [contact]
    exact ⟨_, taken, entry, rfl, rfl, rfl, rfl, expectation rfl, current, detail, allot,
      fun _ => ⟨lost, lawful.lostExpired lost, rfl, pos, neg⟩, fun h => by simp at h⟩
  | true =>
    obtain ⟨offWire, stopped, hpos, hneg, entry⟩ := on ha
    exact ⟨_, taken, entry, rfl, rfl, rfl, rfl, expectation rfl, current, detail, allot, fun h => by simp at h,
      fun _ => ⟨offWire, stopped, rfl, hpos, hneg⟩⟩

/-- The lowering timer's expiry stops the timer, changes no contact state and raises LOWER_STUCK (R28). -/
theorem State.loweringExpired_running (s : State) (runs : s.contact.loweringTimer.isRunning = true)
    (derived : s.contact.contact = s.contact.derive) :
    let u : ContactUnit := ({ s.contact with loweringTimer := .stopped } : ContactUnit).settle s.sections.gapOverride
    ∃ c, s.loweringExpired = (({ s with contact := u } : State).raiseAlarm .lowerStuck none s.contact.contact
      s.allot.record.tractionTotal).noticeContact c := by
  intro u
  obtain ⟨v, hv⟩ : ∃ v : ContactUnit, v = { s.contact with loweringTimer := .stopped } := ⟨_, rfl⟩
  have same : v.derive = s.contact.contact := by rw [derived, hv]; rfl
  have expiry : s.loweringExpired = ({ s with contact := v } : State).handOver s.contact s.allot.record.tractionTotal
      { vehicleAlarms := [.raised .lowerStuck none] } := by
    subst hv
    simp only [State.loweringExpired, runs, if_true]
  have raised := State.handOver_raise { s with contact := v } s.contact s.allot.record.tractionTotal .lowerStuck
    (by show _ ∨ v.derive ≠ .gap; rw [same]; exact em _)
  simp only [same, State.lineSignals_same, State.sectionSignals_same, State.endLineLost_same] at raised
  have hu : u = v.settle s.sections.gapOverride := by rw [hv]
  rw [hu]
  exact ⟨_, expiry.trans raised⟩

/-- Settles O26: the contact state stays, so the raise of LOWER_STUCK is all that follows the stop of the timer; its event
routes no action. -/
theorem loweringExpiryRaisesLowerStuck : Obligations.LoweringExpiryRaisesLowerStuck := by
  intro s up law runs
  obtain ⟨c, expiry⟩ := s.loweringExpired_running runs ((s.contactLaw_iff).1 law up).derived
  set u := ContactUnit.settle { s.contact with loweringTimer := .stopped } s.sections.gapOverride with hu
  have taken := s.act_of_up State.loweringExpired up
  rw [expiry, State.raiseAlarm] at taken
  set x : State := { s with contact := u } with hx
  set y := x.enterAlarm .lowerStuck none s.contact.contact s.allot.record.tractionTotal with hy
  set ev : Event := ⟨.lowerStuck, .advisory, .absent⟩
  set t := ((y.handleEvent ev).noticeContact c).beginWaiting with ht
  have answered : exec .loweringTimerExpiry s = .next t := taken
  obtain ⟨eventContact, eventAlarm, -, -⟩ := y.handleEvent_unacting ev rfl (.inr rfl)
  have router : y.router = s.router := x.enterAlarm_router _ _ _ _
  have contact : t.contact = u := by
    rw [ht, State.beginWaiting_contact, State.noticeContact_contact, eventContact]
    exact x.enterAlarm_contact _ _ _ _
  have alarm : t.alarm = y.alarm := by
    rw [ht, State.beginWaiting_alarm, State.noticeContact_alarm, eventAlarm]
  have count : (t.router.faults[3]).count = min ((s.router.faults[3]).count + 1) 65535 := by
    have := congrArg FaultEntry.count (y.handleEvent_entry ev)
    rw [router] at this
    rw [ht, State.beginWaiting_router, State.noticeContact_router]
    exact this
  have mode : t.router.mode = s.router.mode := by
    have := y.handleEvent_mode ev rfl
    rw [router] at this
    simpa only [ht, State.beginWaiting_router, State.noticeContact_router] using this
  have stopped : t.contact.loweringTimer = .stopped := by
    rw [contact, hu, ContactUnit.settle_loweringTimer]
    exact ite_self _
  have pos : t.contact.poles.pos.state = s.contact.poles.pos.state := by simp [contact, hu, PerPole.get]
  have neg : t.contact.poles.neg.state = s.contact.poles.neg.state := by simp [contact, hu, PerPole.get]
  cases found : s.alarm.find .lowerStuck with
  | none =>
    have entry := x.enterAlarm_find_new .lowerStuck none s.contact.contact s.allot.record.tractionTotal found
    rw [← hy, ← alarm] at entry
    exact ⟨t, _, answered, stopped, pos, neg, entry, rfl, rfl, rfl, rfl, fun _ h => by simp at h, fun _ => ⟨rfl, rfl⟩,
      count, mode⟩
  | some old =>
    obtain ⟨entry, length⟩ :=
      x.enterAlarm_find_repeat .lowerStuck none s.contact.contact s.allot.record.tractionTotal old found
    rw [← hy, ← alarm] at entry length
    exact ⟨t, _, answered, stopped, pos, neg, entry, rfl, rfl, rfl, rfl, fun _ h => by cases h; exact ⟨rfl, rfl, length⟩,
      fun h => by simp at h, count, mode⟩

end Sys2Proof.Machine

namespace Sys2Proof.Machine

/-! ## The number of a new entry (R39) -/

/-- Where the search for a number ends on one that the list holds, the list holds every number that it passed. -/
theorem freeNumber_held {active : List AlarmEntry} (fuel : Nat) (n : BitVec 16)
    (held : freeNumber active fuel n ∈ active.map AlarmEntry.number) :
    ∀ i ≤ fuel, n + BitVec.ofNat 16 i ∈ active.map AlarmEntry.number := by
  induction fuel generalizing n with
  | zero =>
    intro i hi
    obtain rfl : i = 0 := by omega
    simpa [freeNumber] using held
  | succ fuel ih =>
    have taken : active.any (fun e => e.number = n) = true := by
      by_contra free
      simp only [freeNumber, free, if_false] at held
      exact free (by simpa using held)
    intro i hi
    cases i with
    | zero => simpa using taken
    | succ j =>
      rw [freeNumber, if_pos taken] at held
      have next : n + 1 + BitVec.ofNat 16 j = n + BitVec.ofNat 16 (j + 1) := by
        rw [BitVec.ofNat_add, BitVec.add_assoc, BitVec.add_comm (BitVec.ofNat 16 j)]; rfl
      exact next ▸ ih (n + 1) held j (by omega)

/-- There are six alarm keys, so a list with one entry per key has six entries at most (R37). -/
theorem active_length_le {active : List AlarmEntry} (keys : (active.map AlarmEntry.key).Nodup) : active.length ≤ 6 := by
  have among : active.map AlarmEntry.key ⊆
      [.poleDrop .pos, .poleDrop .neg, .raiseMiss .pos, .raiseMiss .neg, .lineLost, .lowerStuck] := by
    intro k _
    cases k with
    | poleDrop p | raiseMiss p => cases p <;> simp
    | lineLost | lowerStuck => simp
  simpa using (List.subperm_of_subset keys among).length_le

/-- The number of a new entry is one that no entry holds: the search passes one number more than the list has entries
(R39). -/
theorem AlarmUnit.nextNumber_free (u : AlarmUnit) (keys : (u.active.map AlarmEntry.key).Nodup) :
    u.nextNumber ∉ u.active.map AlarmEntry.number := by
  intro held
  have passed := freeNumber_held _ _ held
  have short := active_length_le keys
  let tried := (List.range (u.active.length + 1)).map fun i => u.counter + 1 + BitVec.ofNat 16 i
  have distinct : tried.Nodup := by
    refine (List.nodup_map_iff_inj_on List.nodup_range).2 fun i hi j hj same => ?_
    simp only [List.mem_range] at hi hj
    have := congrArg BitVec.toNat ((BitVec.add_right_inj _).1 same)
    simp only [BitVec.toNat_ofNat] at this
    omega
  have among : tried ⊆ u.active.map AlarmEntry.number := by
    intro x hx
    obtain ⟨i, hi, rfl⟩ := List.mem_map.1 hx
    exact passed i (by simpa [Nat.lt_succ_iff] using hi)
  have := (List.subperm_of_subset distinct among).length_le
  simp [tried] at this

/-- The counter's next number is taken where no entry holds it (R39). -/
theorem AlarmUnit.nextNumber_eq (u : AlarmUnit) (free : ∀ x ∈ u.active, x.number ≠ u.counter + 1) :
    u.nextNumber = u.counter + 1 := by
  have : ¬u.active.any (fun e => e.number = u.counter + 1) = true := by simpa using free
  simp only [AlarmUnit.nextNumber]
  cases u.active.length with
  | zero => rfl
  | succ => rw [freeNumber, if_neg this]

end Sys2Proof.Machine

namespace Sys2Proof.Machine

/-! ## What the operations on the active list leave (R37, R39, R46) -/

theorem AlarmUnit.key_free_of_find {u : AlarmUnit} {k : AlarmKey} (h : u.find k = none) : ∀ x ∈ u.active, x.key ≠ k := by
  simpa [AlarmUnit.find] using h

theorem AlarmUnit.mem_of_find {u : AlarmUnit} {k : AlarmKey} {e : AlarmEntry} (h : u.find k = some e) : e ∈ u.active :=
  List.mem_of_find?_eq_some h

/-- With one entry per key, entries of one key are one entry (R37). -/
theorem entry_eq_of_key {active : List AlarmEntry} (keys : (active.map AlarmEntry.key).Nodup) {x y : AlarmEntry}
    (hx : x ∈ active) (hy : y ∈ active) (h : x.key = y.key) : x = y :=
  List.inj_on_of_nodup_map keys hx hy h

section
variable (u : AlarmUnit)

@[simp] theorem AlarmUnit.recordHistory_active (e : AlarmEntry) : (u.recordHistory e).active = u.active := by
  simp only [AlarmUnit.recordHistory]
  split
  · rfl
  all_goals split <;> rfl

@[simp] theorem AlarmUnit.recordHistory_counter (e : AlarmEntry) : (u.recordHistory e).counter = u.counter := by
  simp only [AlarmUnit.recordHistory]
  split
  · rfl
  all_goals split <;> rfl

@[simp] theorem AlarmUnit.followRepeats_active (n : BitVec 16) (r : Nat) : (u.followRepeats n r).active = u.active := rfl

/-- A replacement keeps every key in its place (R37). -/
@[simp] theorem AlarmUnit.replace_keys (e : AlarmEntry) :
    (u.replace e).active.map AlarmEntry.key = u.active.map AlarmEntry.key := by
  simp only [AlarmUnit.replace, List.map_map, List.map_inj_left, Function.comp_apply]
  intro x _
  split
  · next h => exact h.symm
  · rfl

/-- A replacement that keeps its entry's number keeps every number in its place (R42). -/
theorem AlarmUnit.replace_numbers (e : AlarmEntry) (same : ∀ x ∈ u.active, x.key = e.key → x.number = e.number) :
    (u.replace e).active.map AlarmEntry.number = u.active.map AlarmEntry.number := by
  simp only [AlarmUnit.replace, List.map_map, List.map_inj_left, Function.comp_apply]
  intro x hx
  split
  · next h => exact (same x hx h).symm
  · rfl

end

/-- What a raise makes of the list: a new entry at the end under a free number, or the key's entry repeated in its place
with its number (R40, R42). -/
theorem State.enterAlarm_active (s : State) (k : AlarmKey) (cls : Option ConditionClass) (b : ContactState) (n : Nat) :
    ∃ e : AlarmEntry, e.key = k ∧ e.state = .activeUnack ∧
      ((s.alarm.find k = none ∧ e.number = s.alarm.nextNumber ∧
          (s.enterAlarm k cls b n).alarm.active = s.alarm.active ++ [e]) ∨
        ∃ old, s.alarm.find k = some old ∧ e.number = old.number ∧
          (s.enterAlarm k cls b n).alarm.active = (s.alarm.replace e).active) := by
  cases found : s.alarm.find k with
  | none =>
    refine ⟨⟨s.alarm.nextNumber, k, cls, .activeUnack, s.allot.frame, s.snapshot k b n, 0, none⟩, rfl, rfl,
      .inl ⟨rfl, rfl, ?_⟩⟩
    simp only [State.enterAlarm, found, State.changeAlarms_alarm, AlarmUnit.recordHistory_active]
  | some old =>
    refine ⟨{ old with
      repeats := satSucc 255 old.repeats, state := .activeUnack, ackPort := none, cls := cls
      raiseFrame := s.allot.frame, snapshot := s.snapshot k b n }, (AlarmUnit.key_of_find found :), rfl,
      .inr ⟨old, rfl, rfl, ?_⟩⟩
    simp only [State.enterAlarm, found, State.changeAlarms_alarm, AlarmUnit.followRepeats_active]

/-- What a condition end makes of the alarm unit: nothing, a gone entry in its place, or a list without the key (R43). -/
theorem AlarmUnit.ended_cases (u : AlarmUnit) (k : AlarmKey) :
    (u.ended k = u ∧ ∀ e, u.find k = some e → e.state = .goneUnack) ∨
      (∃ e, u.find k = some e ∧ e.state = .activeUnack ∧ u.ended k = u.replace { e with state := .goneUnack }) ∨
      ∃ e, u.find k = some e ∧ e.state = .activeAck ∧ u.ended k = u.remove k := by
  cases found : u.find k with
  | none => exact .inl ⟨by simp [AlarmUnit.ended, found], by simp⟩
  | some e =>
    cases state : e.state with
    | activeUnack => exact .inr (.inl ⟨e, rfl, state, by simp [AlarmUnit.ended, found, state]⟩)
    | activeAck => exact .inr (.inr ⟨e, rfl, state, by simp [AlarmUnit.ended, found, state]⟩)
    | goneUnack => exact .inl ⟨by simp [AlarmUnit.ended, found, state], by simp [state]⟩

/-- The alarm unit after an acknowledgment of a number by a port (R44). -/
def AlarmUnit.acknowledged (u : AlarmUnit) (p : PortId) (number : Half) : AlarmUnit :=
  match u.active.find? fun e => e.number = number with
  | none => u
  | some e =>
    match e.state with
    | .activeUnack => u.replace { e with state := .activeAck, ackPort := some p }
    | .activeAck => u
    | .goneUnack => u.remove e.key

/-- What an acknowledgment makes of the alarm unit: nothing, an acknowledged entry in its place, or a list without a gone
entry's key (R44). -/
theorem AlarmUnit.acknowledged_cases (u : AlarmUnit) (p : PortId) (number : Half) :
    u.acknowledged p number = u ∨
      (∃ e ∈ u.active, e.state = .activeUnack ∧
        u.acknowledged p number = u.replace { e with state := .activeAck, ackPort := some p }) ∨
      ∃ e ∈ u.active, e.state = .goneUnack ∧ u.acknowledged p number = u.remove e.key := by
  cases found : u.active.find? fun e => e.number = number with
  | none => exact .inl (by simp [AlarmUnit.acknowledged, found])
  | some e =>
    have member := List.mem_of_find?_eq_some found
    cases state : e.state with
    | activeUnack => exact .inr (.inl ⟨e, member, state, by simp [AlarmUnit.acknowledged, found, state]⟩)
    | activeAck => exact .inl (by simp [AlarmUnit.acknowledged, found, state])
    | goneUnack => exact .inr (.inr ⟨e, member, state, by simp [AlarmUnit.acknowledged, found, state]⟩)

/-- An acknowledgment changes the state by its list and that list's notice, or not at all (R44, R48). -/
theorem answerAckAlarm_state_eq (p : PortId) (number : Half) (s : State) :
    ((answerAckAlarm p number s).state = s ∧ s.alarm.acknowledged p number = s.alarm) ∨
      (answerAckAlarm p number s).state = s.changeAlarms (s.alarm.acknowledged p number) := by
  cases found : s.alarm.active.find? fun e => e.number = number with
  | none => exact .inl (by simp [answerAckAlarm, AlarmUnit.acknowledged, found])
  | some e =>
    cases state : e.state with
    | activeAck => exact .inl (by simp [answerAckAlarm, AlarmUnit.acknowledged, found, state])
    | activeUnack | goneUnack =>
      exact .inr (by simp [answerAckAlarm, AlarmUnit.acknowledged, found, state, State.ok])

@[simp] theorem answerAckAlarm_alarm (p : PortId) (number : Half) (s : State) :
    (answerAckAlarm p number s).state.alarm = s.alarm.acknowledged p number := by
  rcases answerAckAlarm_state_eq p number s with ⟨same, alarm⟩ | changed
  · rw [same, alarm]
  · rw [changed, State.changeAlarms_alarm]

/-- A condition end changes the state by its list and that list's notice, or not at all (R43, R48). -/
theorem State.conditionEnd_eq (s : State) (k : AlarmKey) :
    (s.conditionEnd k = s ∧ s.alarm.ended k = s.alarm) ∨ s.conditionEnd k = s.changeAlarms (s.alarm.ended k) := by
  cases found : s.alarm.find k with
  | none => exact .inl (by simp [State.conditionEnd, AlarmUnit.ended, found])
  | some e =>
    cases state : e.state with
    | goneUnack => exact .inl (by simp [State.conditionEnd, AlarmUnit.ended, found, state])
    | activeUnack | activeAck => exact .inr (by simp [State.conditionEnd, AlarmUnit.ended, found, state])

end Sys2Proof.Machine

namespace Sys2Proof.Machine

/-! ## One port's queue after a notice or a withdrawal (R47, R175) -/

section
variable (s : State) (q : PortId)

theorem State.queueTo_queue (dest : PortId → Bool) (n : Notice) : ((s.queueTo dest n).ports[q]).queue =
    if dest q then enqueue n (s.ports[q]).queue else (s.ports[q]).queue := by
  simp only [Fin.getElem_fin, State.queueTo_port]
  split <;> rfl

/-- A notice changes no port that does not receive it (R174). -/
theorem State.notify_port_other (n : Notice) (h : (s.role q).receives n.kind = false) :
    (s.notify n).ports[q] = s.ports[q] := by
  simp only [State.notify, Fin.getElem_fin, State.queueTo_port, h, Bool.false_eq_true, if_false]

theorem State.withdrawRaise_port : s.withdrawRaise.ports[q] =
    if s.role q = .roof then
      { s.ports[q] with queue := (s.ports[q]).queue.filter (· != .poleOrder .raise) }
    else s.ports[q] := by
  by_cases h : (s.ports[q]).inForce.role = .roof <;>
  · simp only [Fin.getElem_fin] at h
    simp [State.withdrawRaise, State.role, h]

@[simp] theorem State.withdrawRaise_role : s.withdrawRaise.role q = s.role q := by
  rw [State.role, s.withdrawRaise_port q]
  split <;> rfl

end

/-- A notice that is no EVENT notice waits with its own content once queued (R175). -/
theorem mem_enqueue_self (n : Notice) (queue : List Notice) (h : n.kind ≠ .event) : n ∈ enqueue n queue := by
  induction queue with
  | nil => simp [enqueue]
  | cons m queue ih =>
    simp only [enqueue]
    split
    · next same =>
      have : m.takeIn n = n := by cases n <;> cases m <;> simp_all [Notice.kind, Notice.takeIn]
      simp [this]
    · exact List.mem_cons_of_mem _ ih

/-- A raise order is in a queue after a notice only if it was, or is that notice (R175). -/
theorem mem_enqueue_raise {n : Notice} {queue : List Notice} (h : Notice.poleOrder .raise ∈ enqueue n queue) :
    Notice.poleOrder .raise ∈ queue ∨ n = .poleOrder .raise := by
  rcases mem_enqueue _ _ _ h with old | same | ⟨m, held, kind, taken⟩
  · exact .inl old
  · exact .inr same.symm
  · cases m <;> cases n <;> simp_all [Notice.kind, Notice.takeIn]

/-! ## CLEAR_HISTORY and ACK_ALARM (R44, R52) -/

/-- Settles O31: the request is the CAB's alone, and its answer sets the history and the flag. -/
theorem clearHistoryEmptiesIt : Obligations.ClearHistoryEmptiesIt := by
  intro p tag s hears
  obtain ⟨cab, other⟩ := State.actRequest_of_cab hears 0x29 tag answerClearHistory (by decide)
  by_cases role : s.role p = .cab
  · exact (cab role).trans (by rw [if_pos role]; rfl)
  · exact (other role).trans (by rw [if_neg role])

/-- Settles O30: an entry is found by its number, since no number is held twice, and its state decides. -/
theorem acknowledgmentsActByState : Obligations.AcknowledgmentsActByState := by
  intro p tag number s hears h
  obtain ⟨cab, other⟩ := State.actRequest_of_cab hears 0x28 tag (answerAckAlarm p number) (by decide)
  refine ⟨other, fun role unheld => (cab role).trans ?_, fun role law e held named => ?_⟩
  · have unfound : s.alarm.active.find? (fun e => e.number = number) = none := by simpa using unheld
    simp [answerAckAlarm, unfound, State.refuse, h]
  · subst named
    have found := find_by_number s.alarm.active law.2 e held
    refine ⟨fun state => (cab role).trans ?_, fun state => (cab role).trans ?_, fun state => (cab role).trans ?_⟩
    · simp only [answerAckAlarm, State.hunt_alarm, found, state]
      rfl
    · simp only [answerAckAlarm, State.hunt_alarm, found, state]
      rfl
    · simp only [answerAckAlarm, State.hunt_alarm, found, state]
      rfl

end Sys2Proof.Machine

namespace Sys2Proof.Machine

/-! ## The history after a raise (R50) -/

/-- A new alarm's copy goes into the history as the policy says: behind the others while there is room, then in place of the
oldest under LATEST, and not at all under FIRST, whose flag is set, and OFF (R50). -/
theorem AlarmUnit.recordHistory_by_policy (u : AlarmUnit) (e : AlarmEntry) :
    (u.policy = .off → u.recordHistory e = u) ∧
    (u.policy ≠ .off → u.history.length < 16 → u.recordHistory e = { u with history := u.history ++ [e.copy] }) ∧
    (u.policy = .latest → 16 ≤ u.history.length →
      u.recordHistory e = { u with history := u.history.tail ++ [e.copy] }) ∧
    (u.policy = .first → 16 ≤ u.history.length → u.recordHistory e = { u with historyFull := true }) := by
  refine ⟨fun policy => ?_, fun policy room => ?_, fun policy full => ?_, fun policy full => ?_⟩
  · simp only [AlarmUnit.recordHistory, policy]
  · cases h : u.policy with
    | off => exact absurd h policy
    | latest | first => simp only [AlarmUnit.recordHistory, h, room, if_true]
  · simp only [AlarmUnit.recordHistory, policy, Nat.not_lt.2 full, if_false, List.drop_one]
  · simp only [AlarmUnit.recordHistory, policy, Nat.not_lt.2 full, if_false]

/-- The first entry with the number takes the repeat count. -/
theorem setRepeats_append (n : BitVec 16) (r : Nat) (a b : List HistoryEntry) (h : HistoryEntry) (hn : h.number = n)
    (others : ∀ x ∈ a, x.number ≠ n) : setRepeats n r (a ++ h :: b) = a ++ { h with repeats := r } :: b := by
  induction a with
  | nil => simp [setRepeats, hn]
  | cons x a ih =>
    obtain ⟨first, rest⟩ := List.forall_mem_cons.1 others
    simp [setRepeats, first, ih rest]

theorem setRepeats_absent (n : BitVec 16) (r : Nat) (l : List HistoryEntry) (absent : ∀ x ∈ l, x.number ≠ n) :
    setRepeats n r l = l := by
  induction l with
  | nil => rfl
  | cons x l ih =>
    obtain ⟨first, rest⟩ := List.forall_mem_cons.1 absent
    simp [setRepeats, first, ih rest]

/-- The newest history copy of a number takes the repeat count, and the rest of the history stays (R50). -/
theorem AlarmUnit.followRepeats_newest (u : AlarmUnit) (n : BitVec 16) (r : Nat) (a : List HistoryEntry)
    (h : HistoryEntry) (b : List HistoryEntry) (history : u.history = a ++ h :: b) (hn : h.number = n)
    (newest : ∀ x ∈ b, x.number ≠ n) :
    (u.followRepeats n r).history = a ++ { h with repeats := r } :: b := by
  have reversed : u.history.reverse = b.reverse ++ h :: a.reverse := by simp [history]
  simp only [AlarmUnit.followRepeats, reversed]
  rw [setRepeats_append n r _ _ h hn (by simpa using newest)]
  simp

theorem AlarmUnit.followRepeats_absent (u : AlarmUnit) (n : BitVec 16) (r : Nat)
    (absent : ∀ x ∈ u.history, x.number ≠ n) : u.followRepeats n r = u := by
  simp only [AlarmUnit.followRepeats]
  rw [setRepeats_absent n r _ (by simpa using absent), List.reverse_reverse]

/-! ## What a raise makes of the alarm unit (R40, R42) -/

section
variable (s : State) (k : AlarmKey) (cls : Option ConditionClass) (b : ContactState) (n : Nat)

/-- The entry that a raise of a key without entry adds (R40). -/
def State.newEntry : AlarmEntry :=
  ⟨s.alarm.nextNumber, k, cls, .activeUnack, s.allot.frame, s.snapshot k b n, 0, none⟩

/-- The entry that a raise of a key puts in the place of its old one (R42). -/
def State.repeatedEntry (old : AlarmEntry) : AlarmEntry :=
  ⟨old.number, k, cls, .activeUnack, s.allot.frame, s.snapshot k b n, min (old.repeats + 1) 255, none⟩

theorem State.enterAlarm_new (h : s.alarm.find k = none) : (s.enterAlarm k cls b n).alarm =
    ({ s.alarm with
      active := s.alarm.active ++ [s.newEntry k cls b n]
      counter := s.alarm.nextNumber } : AlarmUnit).recordHistory (s.newEntry k cls b n) := by
  simp only [State.enterAlarm, h, State.changeAlarms_alarm]
  rfl

theorem State.enterAlarm_repeat {old : AlarmEntry} (h : s.alarm.find k = some old) :
    (s.enterAlarm k cls b n).alarm = (s.alarm.replace (s.repeatedEntry k cls b n old)).followRepeats old.number
      (s.repeatedEntry k cls b n old).repeats := by
  have key := AlarmUnit.key_of_find h
  subst key
  simp only [State.enterAlarm, h, State.changeAlarms_alarm]
  rfl

/-- A raise withdraws the raise orders for a pole kind, and then changes the alarm unit with its notice (R47, R48). -/
theorem State.enterAlarm_eq : s.enterAlarm k cls b n =
    (if k.pole.isSome then s.withdrawRaise else s).changeAlarms (s.enterAlarm k cls b n).alarm := by
  conv_rhs => rw [State.enterAlarm, State.changeAlarms_alarm]
  rfl

end

/-- The notice of a changed list waits at the CAB, ROOF and MONITOR ports, and the other ports stay as they are (R48). -/
theorem State.changeAlarms_ports (s : State) (u : AlarmUnit) (q : PortId) :
    (s.role q = .cab ∨ s.role q = .roof ∨ s.role q = .monitor →
      Notice.alarm (u.active.map AlarmEntry.line) ∈ ((s.changeAlarms u).ports[q]).queue) ∧
    (s.role q = .traction ∨ s.role q = .auxiliary → (s.changeAlarms u).ports[q] = s.ports[q]) := by
  refine ⟨fun role => ?_, fun role => ?_⟩
  · have receives : (s.role q).receives .alarm = true := by rcases role with h | h | h <;> rw [h] <;> rfl
    rw [State.changeAlarms, State.notify, State.queueTo_queue, if_pos]
    · exact mem_enqueue_self _ _ (by simp [Notice.kind])
    · exact receives
  · refine State.notify_port_other { s with alarm := u } q _ ?_
    show (s.role q).receives .alarm = false
    rcases role with h | h <;> rw [h] <;> rfl

/-- No raise order waits at a ROOF port after a raise of a pole kind (R47). -/
theorem State.enterAlarm_withdraws (s : State) (k : AlarmKey) (cls : Option ConditionClass) (b : ContactState) (n : Nat)
    (pole : k.pole.isSome = true) (q : PortId) (roof : s.role q = .roof) :
    Notice.poleOrder .raise ∉ ((s.enterAlarm k cls b n).ports[q]).queue := by
  rw [s.enterAlarm_eq, if_pos pole, State.changeAlarms, State.notify, State.queueTo_queue]
  have withdrawn : Notice.poleOrder .raise ∉ (s.withdrawRaise.ports[q]).queue := by
    rw [s.withdrawRaise_port q, if_pos roof]
    simp
  split
  · intro waits
    exact (mem_enqueue_raise waits).elim withdrawn (by simp)
  · exact withdrawn

/-- Where the notice of a raise waits, and which ports a raise leaves as they were (R47, R48). -/
theorem State.enterAlarm_ports (s : State) (k : AlarmKey) (cls : Option ConditionClass) (b : ContactState) (n : Nat)
    (q : PortId) :
    (s.role q = .cab ∨ s.role q = .roof ∨ s.role q = .monitor →
      Notice.alarm ((s.enterAlarm k cls b n).alarm.active.map AlarmEntry.line) ∈
        ((s.enterAlarm k cls b n).ports[q]).queue) ∧
    (s.role q = .traction ∨ s.role q = .auxiliary → (s.enterAlarm k cls b n).ports[q] = s.ports[q]) := by
  have changed := s.enterAlarm_eq k cls b n
  generalize (s.enterAlarm k cls b n).alarm = u at changed ⊢
  rw [changed]
  split
  · obtain ⟨waits, stays⟩ := s.withdrawRaise.changeAlarms_ports u q
    rw [s.withdrawRaise_role q] at waits stays
    refine ⟨waits, fun role => (stays role).trans ?_⟩
    rw [s.withdrawRaise_port q, if_neg (by rcases role with h | h <;> simp [h])]
  · exact s.changeAlarms_ports u q

/-- A raise changes the alarm unit and the ports alone (R40, R42, R47, R48). -/
theorem State.enterAlarm_frame (s : State) (k : AlarmKey) (cls : Option ConditionClass) (b : ContactState) (n : Nat) :
    s.enterAlarm k cls b n =
      { s with alarm := (s.enterAlarm k cls b n).alarm, ports := (s.enterAlarm k cls b n).ports } := by
  conv_lhs => rw [s.enterAlarm_eq]
  conv_rhs => rw [s.enterAlarm_eq]
  split <;> rfl

/-- Settles O29: the new entry and the repeated one by what a raise makes of the alarm unit, the queues by the withdrawal
and the notice, and a condition end by the state of its entry. -/
theorem raisesAndEndsMoveTheList : Obligations.RaisesAndEndsMoveTheList := by
  refine ⟨fun s k cls before traction => ?_, fun s k => ?_⟩
  · intro t snap
    refine ⟨fun law new => ⟨s.newEntry k cls before traction, ?_⟩, fun old found => ?_,
      fun q roof pole => s.enterAlarm_withdraws k cls before traction pole q roof,
      s.enterAlarm_ports k cls before traction, s.enterAlarm_frame k cls before traction⟩
    · have alarm : t.alarm = _ := s.enterAlarm_new k cls before traction new
      obtain ⟨off, room, latest, first⟩ := AlarmUnit.recordHistory_by_policy
        { s.alarm with
          active := s.alarm.active ++ [s.newEntry k cls before traction], counter := s.alarm.nextNumber }
        (s.newEntry k cls before traction)
      rw [alarm]
      refine ⟨by simp, by simp [State.newEntry, State.snapshot, snap], fun x hx same => ?_,
        fun free => s.alarm.nextNumber_eq free, fun policy => ?_, fun policy short => ?_, fun policy full => ?_,
        fun policy full => ?_⟩
      · have taken : x.number = s.alarm.nextNumber := same
        exact s.alarm.nextNumber_free law.1 (taken ▸ List.mem_map_of_mem hx)
      · rw [off policy]; exact ⟨rfl, rfl⟩
      · rw [room policy short]; exact ⟨rfl, rfl⟩
      · rw [latest policy full]; exact ⟨rfl, rfl⟩
      · rw [first policy full]; exact ⟨rfl, rfl⟩
    · intro e
      have alarm : t.alarm = _ := s.enterAlarm_repeat k cls before traction found
      rw [alarm]
      refine ⟨rfl, rfl, rfl, AlarmUnit.followRepeats_newest _ _ _, fun absent => ?_⟩
      rw [(s.alarm.replace (s.repeatedEntry k cls before traction old)).followRepeats_absent _ _ absent]
      rfl
  · refine ⟨fun h => by simp only [State.conditionEnd, h], fun e found => ?_⟩
    have key := AlarmUnit.key_of_find found
    subst key
    refine ⟨fun state => ?_, fun state => ?_, fun state => ?_⟩
    · simp only [State.conditionEnd, found, state]
      rfl
    · simp only [State.conditionEnd, found, state]
      rfl
    · simp only [State.conditionEnd, found, state]

end Sys2Proof.Machine

namespace Sys2Proof.Machine

/-! ## What the laws of list, poles and raise orders rest on (R37, R43, R47) -/

/-- A pole's record is DEWIRED. -/
def State.dewired (s : State) (p : Pole) : Bool := (s.contact.poles.get p).state == .dewired

/-- The list holds an entry whose condition stands for a pole (R43). -/
def AlarmUnit.stands (u : AlarmUnit) (p : Pole) : Bool := u.active.any fun e => e.holdsFor p

theorem State.poleLaw_iff (s : State) (p : Pole) : s.PoleLaw p ↔ s.dewired p = s.alarm.stands p := by
  rw [Bool.eq_iff_iff, State.dewired, beq_iff_eq]
  rfl

/-- Between the two states the list, the DEWIRED poles and the roles are the same, and every queue holds notices that it
held. -/
structure State.AlarmFrame (s t : State) : Prop where
  active : t.alarm.active = s.alarm.active
  dewired : ∀ p, t.dewired p = s.dewired p
  role : ∀ p, t.role p = s.role p
  queue : ∀ p : PortId, (t.ports[p]).queue ⊆ (s.ports[p]).queue

/-- A POLE_ORDER goes to ROOF ports alone, and one of RAISE while the raise interlock is released (R46, R174). -/
def State.MayQueue (s : State) (dest : PortId → Bool) (n : Notice) : Prop :=
  n.kind = .poleOrder → (∀ p, dest p = true → s.role p = .roof) ∧ (n = .poleOrder .raise → s.alarm.interlock = false)

/-- A condition kept by each way in which the commands other than a sweep completion and a start-up reach the active list,
the DEWIRED poles and the notice queues: what leaves them, a queued notice, a raise and a condition end of a key that is no
pole's, and an acknowledgment. -/
structure AlarmInvariant (P : State → Prop) : Prop where
  frame : ∀ {s t : State}, s.AlarmFrame t → P s → P t
  queueTo : ∀ {s : State} {dest : PortId → Bool} {n : Notice}, s.MayQueue dest n → P s → P (s.queueTo dest n)
  enterAlarm : ∀ {s : State} {k : AlarmKey}, k.pole = none → P s → ∀ cls b n, P (s.enterAlarm k cls b n)
  conditionEnd : ∀ {s : State} {k : AlarmKey}, k.pole = none → P s → P (s.conditionEnd k)
  acknowledge : ∀ {s : State}, P s → ∀ p number, P (answerAckAlarm p number s).state

theorem State.AlarmFrame.of_eq {s t : State} (active : t.alarm.active = s.alarm.active)
    (dewired : ∀ p, t.dewired p = s.dewired p) (ports : t.ports = s.ports) : s.AlarmFrame t where
  active := active
  dewired := dewired
  role p := by simp only [State.role, ports]
  queue p := by rw [ports]; exact List.Subset.refl _

/-- One port may change but for its role, and what waits at it may leave. -/
theorem State.AlarmFrame.setPort (s : State) (p : PortId) (port : Port)
    (role : port.inForce = (s.ports[p]).inForce) (queue : port.queue ⊆ (s.ports[p]).queue) :
    s.AlarmFrame (s.setPort p port) where
  active := rfl
  dewired _ := rfl
  role q := by
    simp only [State.role, Fin.getElem_fin, State.setPort_port]
    split
    · next same => cases Fin.ext same; rw [role]; rfl
    · rfl
  queue q := by
    simp only [Fin.getElem_fin, State.setPort_port]
    split
    · next same => cases Fin.ext same; exact queue
    · exact List.Subset.refl _

/-- A transmitter's choice takes a notice from its queue, or leaves the queue (R176). -/
theorem Port.beginWaiting_queue (port : Port) : port.beginWaiting.queue ⊆ port.queue := by
  rcases port.beginWaiting_cases with e | ⟨_, _, e⟩ | ⟨n, rest, _, _, _, queue, e⟩
  · rw [e]; exact List.Subset.refl _
  · rw [e]; exact List.Subset.refl _
  · rw [e, queue]; exact List.subset_cons_self _ _

/-- LOWER moves no pole to or from DEWIRED (R28). -/
theorem PoleRecord.lowerNow_dewired (r : PoleRecord) : (r.lowerNow.state == .dewired) = (r.state == .dewired) := by
  rw [r.lowerNow_state]
  split
  · next moves => rcases moves with e | e <;> rw [e] <;> rfl
  · rfl

theorem ContactUnit.lowered_dewired (u : ContactUnit) (o : Option Nat) (p : Pole) :
    (((u.lowered o).poles.get p).state == .dewired) = ((u.poles.get p).state == .dewired) := by
  obtain ⟨-, -, pos, neg⟩ := u.lowered_frame o
  cases p with
  | pos => simp only [PerPole.get, pos, PoleRecord.lowerNow_dewired]
  | neg => simp only [PerPole.get, neg, PoleRecord.lowerNow_dewired]

/-- What leaves the list, the pole records and the ports leaves the condition. -/
theorem AlarmInvariant.same {P : State → Prop} (h : AlarmInvariant P) {s t : State} (hs : P s)
    (active : t.alarm.active = s.alarm.active := by simp) (poles : t.contact.poles = s.contact.poles := by simp)
    (ports : t.ports = s.ports := by simp) : P t :=
  h.frame (.of_eq active (fun p => by simp only [State.dewired, poles]) ports) hs

section
variable {P : State → Prop} (h : AlarmInvariant P) {s : State} (hs : P s)
include h hs

/-! ## Notices and the alarms of the vehicle -/

theorem AlarmInvariant.queueOther (dest : PortId → Bool) {n : Notice} (other : n.kind ≠ .poleOrder) :
    P (s.queueTo dest n) :=
  h.queueTo (fun order => absurd order other) hs

theorem AlarmInvariant.notifyOther {n : Notice} (other : n.kind ≠ .poleOrder) : P (s.notify n) :=
  h.queueOther hs _ other

/-- A POLE_ORDER goes where its receivers are, and RAISE waits for the interlock (R46, R174). -/
theorem AlarmInvariant.notifyOrder (o : PoleOrder) (released : o = .raise → s.alarm.interlock = false) :
    P (s.notify (.poleOrder o)) :=
  h.queueTo (fun _ => ⟨fun p roof => by simpa [Notice.kind, Role.receives] using roof,
    fun raise => released (by simpa using raise)⟩) hs

theorem AlarmInvariant.beginWaiting : P s.beginWaiting := by
  refine h.frame (s := s) ⟨rfl, fun _ => rfl, fun p => ?_, fun p => ?_⟩ hs
  · simp [State.role]
  · simp only [Fin.getElem_fin, State.beginWaiting_port]
    exact Port.beginWaiting_queue _

theorem AlarmInvariant.setPort (p : PortId) (port : Port) (role : port.inForce = (s.ports[p]).inForce)
    (queue : port.queue ⊆ (s.ports[p]).queue) : P (s.setPort p port) :=
  h.frame (.setPort s p port role queue) hs

/-- A port changed in what is neither its role nor its queue. -/
theorem AlarmInvariant.changePort (p : PortId) (port : Port) (role : port.inForce = (s.ports[p]).inForce)
    (queue : port.queue = (s.ports[p]).queue) : P (s.setPort p port) :=
  h.setPort hs p port role (queue ▸ List.Subset.refl _)

/-! ## The allotment unit and the sequencer -/

theorem AlarmInvariant.setAux (a : Sequencer) : P (s.setAux a) := by
  have changed : P { s with aux := a } := h.same hs
  simp only [State.setAux]
  split
  · exact changed
  · exact h.notifyOther changed (by simp [Notice.kind])

theorem AlarmInvariant.publish : P s.publish := h.notifyOther hs (by simp [Notice.kind])

theorem AlarmInvariant.setRecord (r : Record) : P (s.setRecord r) := h.same hs

theorem AlarmInvariant.markCut : P s.markCut := h.same hs

theorem AlarmInvariant.takeCut : P s.takeCut := by
  simp only [State.takeCut, State.shedOnCut]
  exact h.publish (h.setAux (h.same hs) _)

theorem AlarmInvariant.takeRestore : P s.takeRestore := h.same hs

theorem AlarmInvariant.takeOvervoltageCut : P s.takeOvervoltageCut := h.publish (h.setRecord hs _)

theorem AlarmInvariant.takeModeCut (m : Mode) : P (s.takeModeCut m) :=
  h.publish (h.setAux (h.markCut (h.setRecord hs _)) _)

theorem AlarmInvariant.takeLimits (l : Limits) : P (s.takeLimits l) := by
  simp only [State.takeLimits]
  split
  · exact h.publish (h.markCut (h.setRecord hs _))
  · exact hs

theorem AlarmInvariant.takeBatteryCut : P s.takeBatteryCut := by
  have marked : P (if 0 < s.allot.record.aCh then (s.setRecord s.allot.record.batteryCut).markCut
      else s.setRecord s.allot.record.batteryCut) := by
    split
    · exact h.markCut (h.setRecord hs _)
    · exact h.setRecord hs _
  simp only [State.takeBatteryCut]
  split
  · exact h.publish marked
  · exact marked

theorem AlarmInvariant.takeBatteryLimit (i : Nat) : P (s.takeBatteryLimit i) := by
  simp only [State.takeBatteryLimit]
  split
  · exact h.publish (h.setRecord hs _)
  · exact hs

theorem AlarmInvariant.setInhibit (x : InhibitSource) : P (s.setInhibit x) := h.same hs

/-! ## The section unit -/

theorem AlarmInvariant.handLimits : P s.handLimits := h.takeLimits hs _

theorem AlarmInvariant.placeSection (c : Option Nat) : P (s.placeSection c) := h.same hs

theorem AlarmInvariant.writeSection (e : SectionEntry) : P (s.writeSection e) := by
  have stored : P { s with sections := { s.sections with table := insertSection e s.sections.table } } := h.same hs
  simp only [State.writeSection]
  split
  · exact h.handLimits stored
  · exact stored

omit hs in
theorem AlarmInvariant.writeSections (l : List SectionFields) {s : State} (hs : P s) : P (s.writeSections l).1 := by
  induction l generalizing s with
  | nil => exact hs
  | cons f l ih =>
    simp only [State.writeSections]
    split
    · exact hs
    · exact ih (h.writeSection hs _)

theorem AlarmInvariant.gapEnded : P s.gapEnded := by
  simp only [State.gapEnded]
  split
  · split
    · exact h.handLimits (h.placeSection hs _)
    · exact hs
  · exact hs

/-! ## The signals of a change of contact state, and LOWER -/

theorem AlarmInvariant.settleContact : P s.settleContact := by
  refine h.frame (s := s) (.of_eq (by simp) (fun p => ?_) rfl) hs
  cases p <;> simp [State.dewired, PerPole.get]

theorem AlarmInvariant.lineSignals (b a : ContactState) : P (s.lineSignals b a) := by
  simp only [State.lineSignals]
  split
  · exact hs
  · split
    · exact h.takeCut hs
    · split
      · exact h.takeRestore hs
      · exact hs

theorem AlarmInvariant.sectionSignals (b a : ContactState) : P (s.sectionSignals b a) := by
  simp only [State.sectionSignals]
  split
  · exact hs
  · split
    · exact h.same hs
    · split
      · exact h.gapEnded hs
      · exact hs
    · exact h.same hs

theorem AlarmInvariant.endLineLost (b a : ContactState) : P (s.endLineLost b a) := by
  simp only [State.endLineLost]
  split
  · exact h.conditionEnd rfl hs
  · exact hs

theorem AlarmInvariant.noticeContact (c : Bool) : P (s.noticeContact c) := by
  simp only [State.noticeContact]
  split
  · exact h.notifyOther hs (by simp [ContactUnit.notice, Notice.kind])
  · exact hs

theorem AlarmInvariant.lowerPoles : P s.lowerPoles := by
  have ordered : P (s.notify (.poleOrder .lower)) := h.notifyOrder hs _ (by simp)
  rw [s.lowerPoles_eq _ rfl]
  refine h.noticeContact (h.endLineLost (h.sectionSignals (h.lineSignals ?_ _ _) _ _) _ _) _
  exact h.frame (s := s.notify _) (.of_eq rfl (fun p => s.contact.lowered_dewired _ p) rfl) ordered

/-! ## The router and the raises -/

theorem AlarmInvariant.changeMode (m : Mode) (c : ModeCause) : P (s.changeMode m c) := by
  have entered : P { s with router := { s.router with mode := m } } := h.same hs
  simp only [State.changeMode]
  refine h.notifyOther ?_ (by simp [Notice.kind])
  split
  · exact entered
  · exact h.takeModeCut entered m

theorem AlarmInvariant.perform (a : Action) : P (s.perform a) := by
  cases a with
  | lowerPoles => exact h.lowerPoles hs
  | tractionInhibit x => exact h.setInhibit hs x

theorem AlarmInvariant.handleEvent (e : Event) : P (s.handleEvent e) := by
  have latched : P (s.latchEvent e) := by
    simp only [State.latchEvent]
    split
    · exact h.changeMode (h.same hs) _ _
    · exact h.same hs
  simp only [State.handleEvent]
  split
  · exact h.queueOther (h.perform latched _) _ (by simp [Event.notice, Notice.kind])
  · exact h.queueOther latched _ (by simp [Event.notice, Notice.kind])

omit hs in
theorem AlarmInvariant.handleEvents (es : List Event) {s : State} (hs : P s) : P (s.handleEvents es) := by
  simp only [State.handleEvents]
  induction es generalizing s with
  | nil => exact hs
  | cons e es ih => exact ih (h.handleEvent hs e)

end

/-- The key that a signal to the alarm unit carries (R27). -/
def AlarmSignal.key : AlarmSignal → AlarmKey
  | .raised k _ => k
  | .ended k => k

/-- A condition kept by the raises and the condition ends of some keys is kept by the signals that carry them. -/
theorem AlarmInvariant.takeAlarms {P : State → Prop} (h : AlarmInvariant P) (keys : AlarmKey → Prop)
    (enter : ∀ {s : State} {k : AlarmKey}, keys k → P s → ∀ cls b n, P (s.enterAlarm k cls b n))
    (ended : ∀ {s : State} {k : AlarmKey}, keys k → P s → P (s.conditionEnd k))
    (b : ContactState) (n : Nat) (xs : List AlarmSignal) (among : ∀ x ∈ xs, keys x.key) {s : State} (hs : P s) :
    P (xs.foldl (State.takeAlarm b n) s) := by
  induction xs generalizing s with
  | nil => exact hs
  | cons x xs ih =>
    obtain ⟨first, rest⟩ := List.forall_mem_cons.1 among
    refine ih rest ?_
    cases x with
    | raised k c => exact h.handleEvent (enter first hs _ _ _) _
    | ended k => exact ended first hs

/-- A hand-over keeps a condition of the list, the DEWIRED poles and the queues but for what its pole alarms make of it:
these lead from the one condition to the other (R14). -/
theorem AlarmInvariant.handOver {P Q : State → Prop} (h : AlarmInvariant P) (h' : AlarmInvariant Q)
    (before : ContactUnit) (n : Nat) (x : HandOver)
    (poles : ∀ {u : State}, P u → Q (x.poleAlarms.foldl (State.takeAlarm before.contact n) u))
    (vehicle : ∀ y ∈ x.vehicleAlarms, y.key.pole = none) {s : State} (hs : P s) : Q (s.handOver before n x) := by
  have cut (t : State) (c : Prop) [Decidable c] (ht : P t) : P (if c then t.takeOvervoltageCut else t) := by
    split
    · exact h.takeOvervoltageCut ht
    · exact ht
  have event (t : State) (c : Prop) [Decidable c] (e : Event) (ht : Q t) : Q (if c then t.handleEvent e else t) := by
    split
    · exact h'.handleEvent ht e
    · exact ht
  simp only [State.handOver]
  refine h'.noticeContact (event _ _ _ (event _ _ _ ?_)) _
  refine h'.takeAlarms (fun k => k.pole = none) h'.enterAlarm h'.conditionEnd _ _ _ vehicle (h'.endLineLost (poles ?_) _ _)
  exact cut _ _ (h.sectionSignals (h.lineSignals (h.settleContact hs) _ _) _ _)

end Sys2Proof.Machine

namespace Sys2Proof.Machine

/-- A value that names a state of its item is stored, and any other leaves the state as it is. -/
theorem storeNamed_keeps {P : State → Prop} {α : Type} {s : State} (hs : P s) (named : Option α) (store : α → State)
    (stored : ∀ a, P (store a)) : P (storeNamed s named store).state := by
  cases named with
  | none => exact hs
  | some a => exact stored a

theorem PerPole.get_set {α : Type} (v : PerPole α) (p q : Pole) (a : α) :
    (v.set p a).get q = if q = p then a else v.get q := by
  cases p <;> cases q <;> rfl

@[simp] theorem answerCheck_state (level : Byte) (s : State) : (answerCheck level s).state = s := by
  simp only [answerCheck]
  split <;> rfl

section
variable {P : State → Prop} (h : AlarmInvariant P) {s : State} (hs : P s)
include h

/-- A hand-over without pole alarms keeps the condition (R14). -/
theorem AlarmInvariant.handOver_vehicle (before : ContactUnit) (n : Nat) (vehicleAlarms : List AlarmSignal)
    (vehicle : ∀ y ∈ vehicleAlarms, y.key.pole = none) (hs : P s) :
    P (s.handOver before n { vehicleAlarms := vehicleAlarms }) :=
  h.handOver h before n { vehicleAlarms := vehicleAlarms } (fun hu => hu) vehicle hs

include hs

/-! ## Expiries and frames -/

theorem AlarmInvariant.seatExpired (p : Pole) : P (s.seatExpired p) := by
  simp only [State.seatExpired]
  split
  · next due =>
    refine h.handOver_vehicle _ _ [] (by simp) (h.frame (s := s) (.of_eq rfl (fun q => ?_) rfl) hs)
    obtain ⟨raising, -⟩ := Bool.and_eq_true_iff.1 due
    simp only [State.dewired, PerPole.get_set]
    split
    · next own => rw [own, beq_iff_eq.1 raising]; rfl
    · rfl
  · exact hs

theorem AlarmInvariant.gapExpired : P s.gapExpired := by
  simp only [State.gapExpired]
  split
  · refine h.handOver_vehicle _ _ _ ?_ (h.same hs)
    split <;> simp [AlarmSignal.key, AlarmKey.pole]
  · exact hs

theorem AlarmInvariant.loweringExpired : P s.loweringExpired := by
  simp only [State.loweringExpired]
  split
  · exact h.handOver_vehicle _ _ _ (by simp [AlarmSignal.key, AlarmKey.pole]) (h.same hs)
  · exact hs

theorem AlarmInvariant.windowExpired : P s.windowExpired := by
  simp only [State.windowExpired]
  split
  · exact hs
  · split
    · exact hs
    · split
      · exact h.same hs
      · exact h.handleEvent (h.handLimits (h.placeSection hs _)) _

theorem AlarmInvariant.testEssential (r : Record) : P (s.testEssential r) := by
  simp only [State.testEssential]
  split
  · split
    · exact hs
    · exact h.handleEvent (h.same hs) _
  · exact h.same hs

theorem AlarmInvariant.takePublication (r : Record) : P (s.takePublication r) := by
  simp only [State.takePublication]
  exact h.setAux (h.testEssential (h.setAux hs _) r) _

theorem AlarmInvariant.expireFrame : P s.expireFrame := by
  have supervised (u : AllotmentUnit) (r : Record) (es : List Event) :
      P ((({ s with allot := u } : State).takePublication r).publish.handleEvents es) :=
    h.handleEvents es (h.publish (h.takePublication (h.same hs) r))
  simp only [State.expireFrame]
  split
  · exact h.handleEvent (supervised _ _ _) _
  · exact supervised _ _ _

theorem AlarmInvariant.auxEvent (i : Slot) (due : AuxRecord → Bool) (f : AuxRecord → Sequencer) :
    P (s.auxEvent i due f) := by
  simp only [State.auxEvent]
  split
  · split
    · exact h.setAux hs _
    · exact hs
  · exact hs

theorem AlarmInvariant.stallExpired : P s.stallExpired := by
  simp only [State.stallExpired]
  split
  · exact hs
  · split
    · exact h.same hs
    · split
      · split
        · exact h.same hs
        · exact h.handleEvent (h.same hs) _
      · exact h.same hs

theorem AlarmInvariant.saveCompleted (agrees : Bool) : P (s.saveCompleted agrees) := by
  simp only [State.saveCompleted]
  split
  · exact hs
  · exact h.notifyOther (h.same hs) (by simp [Notice.kind])

/-! ## The items -/

theorem AlarmInvariant.setWritten (p : PortId) (f : PortSettings → PortSettings) : P (s.setWritten p f) :=
  h.changePort hs p _ rfl rfl

theorem AlarmInvariant.setEnable (m : MonitorId) (on : Bool) : P (s.setEnable m on) := by
  simp only [State.setEnable]
  split
  · exact hs
  · exact h.handOver_vehicle _ _ [] (by simp) (h.same hs (poles := rfl))

theorem AlarmInvariant.setFilter (m : MonitorId) (f : MonitorSetting → MonitorSetting) : P (s.setFilter m f) := by
  simp only [State.setFilter]
  split
  · exact hs
  · exact h.same hs (poles := rfl)

theorem AlarmInvariant.storeItem (v : Nat) (n : NumericItem) : P (n.store s v) := by
  cases n with
  | iFeedDefault | iRgmaxDefault =>
    simp only [NumericItem.store, State.handDefaultLimits]
    split
    · exact h.handLimits (h.same hs)
    · exact h.same hs
  | iBatMax => exact h.takeBatteryLimit (h.same hs) _
  | offset c | gain c => exact h.same hs rfl rfl rfl
  | _ => exact h.same hs rfl rfl rfl

theorem AlarmInvariant.writeItem (v : Nat) (i : Item) : P (i.write s v).state := by
  cases i with
  | numeric n => exact h.storeItem hs _ n
  | enable m => exact storeNamed_keeps hs _ _ (h.setEnable hs m)
  | filterMode m => exact storeNamed_keeps hs _ _ fun _ => h.setFilter hs m _
  | decimation m => exact h.setFilter hs m fun c => { c with decimation := nearestDecimation v }
  | sweepPeriod | framePeriod => exact h.same hs rfl rfl rfl
  | boost | charge | autoRun => exact storeNamed_keeps hs _ _ fun _ => h.same hs rfl rfl rfl
  | rate p | parity p | polarity p | duplex p | role p => exact storeNamed_keeps hs _ _ fun _ => h.setWritten hs p _
  | readOnly => exact hs

/-! ## What the blocks answer -/

theorem AlarmInvariant.answerPortStatus (named clear : Byte) : P (answerPortStatus named clear s).state := by
  simp only [Machine.answerPortStatus]
  split
  · exact hs
  · split
    · exact hs
    · split
      · exact h.changePort hs _ _ rfl rfl
      · exact hs

theorem AlarmInvariant.answerPoll (p : PortId) : P (answerPoll p s).state := by
  simp only [Machine.answerPoll]
  split
  · next queue => exact h.setPort hs p _ rfl (by rw [queue]; exact List.subset_cons_self _ _)
  · exact hs

theorem AlarmInvariant.answerDemand (mode : Byte) (magnitude : Half) : P (answerDemand mode magnitude s).state := by
  simp only [Machine.answerDemand]
  split
  · exact hs
  · exact h.same hs

theorem AlarmInvariant.startAux (i : Slot) (r : AuxRecord) : P (s.startAux i r).state := by
  cases state : r.state with
  | idle =>
    simp only [State.startAux, state, State.ok_state]
    exact h.setAux hs _
  | cooldown =>
    simp only [State.startAux, state]
    split
    · exact hs
    · dsimp only
      exact h.setAux hs _
  | shed =>
    simp only [State.startAux, state]
    split
    · exact hs
    · split
      · exact hs
      · dsimp only
        exact h.setAux hs _
  | queued | starting | running =>
    simp only [State.startAux, state]
    exact hs

theorem AlarmInvariant.stopAux (i : Slot) (r : AuxRecord) : P (s.stopAux i r).state := by
  cases state : r.state with
  | idle =>
    simp only [State.stopAux, state]
    exact hs
  | cooldown | shed =>
    simp only [State.stopAux, state]
    split
    · rw [State.ok_state]
      exact h.setAux hs _
    · exact hs
  | queued | starting | running =>
    simp only [State.stopAux, state, State.ok_state]
    exact h.setAux hs _

theorem AlarmInvariant.answerAuxStart (slot : Byte) : P (answerAuxStart slot s).state := by
  simp only [Machine.answerAuxStart]
  split
  · exact h.startAux hs _ _
  · exact hs

theorem AlarmInvariant.answerAuxStop (slot : Byte) : P (answerAuxStop slot s).state := by
  simp only [Machine.answerAuxStop]
  split
  · exact h.stopAux hs _ _
  · exact hs

theorem AlarmInvariant.writeAux (i : Slot) (part : AuxConfig) (clamped : Bool) : P (s.writeAux i part clamped).state := by
  simp only [State.writeAux]
  split
  · dsimp only
    exact h.setAux hs _
  · split
    · dsimp only
      exact h.setAux hs _
    · dsimp only
      exact h.setAux hs _

theorem AlarmInvariant.answerAuxWrite (slot : Byte) (f : AuxFields) : P (answerAuxWrite slot f s).state := by
  simp only [Machine.answerAuxWrite]
  split
  · exact hs
  · split
    · exact hs
    · split
      · exact hs
      · exact h.writeAux hs _ _ _

theorem AlarmInvariant.answerAuxRemove (slot : Byte) : P (answerAuxRemove slot s).state := by
  simp only [Machine.answerAuxRemove]
  split
  · exact hs
  · split
    · exact hs
    · split
      · rw [State.ok_state]
        exact h.setAux hs _
      · exact hs

theorem AlarmInvariant.answerSetItem (item value : Half) : P (answerSetItem item value s).state := by
  simp only [Machine.answerSetItem]
  split
  · exact hs
  · split
    · exact hs
    · split
      · exact h.writeItem hs _ _
      · exact hs

theorem AlarmInvariant.answerSectionWrite (l : List SectionFields) : P (answerSectionWrite l s).state := by
  simp only [Machine.answerSectionWrite]
  split
  · exact hs
  · exact h.writeSections l hs

theorem AlarmInvariant.answerSectionErase : P (answerSectionErase s).state := by
  simp only [Machine.answerSectionErase]
  split
  · exact hs
  · split
    · exact h.handLimits (h.same hs)
    · exact h.same hs rfl rfl rfl

theorem AlarmInvariant.answerSectionSet (id : Half) : P (answerSectionSet id s).state := by
  simp only [Machine.answerSectionSet]
  split
  · exact hs
  · split
    · exact h.placeSection hs _
    · exact h.handLimits (h.placeSection hs _)

theorem AlarmInvariant.answerSectionAhead (id : Half) : P (answerSectionAhead id s).state := by
  simp only [Machine.answerSectionAhead]
  split
  · exact hs
  · split
    · split
      · exact hs
      · exact h.same hs
    · exact h.same hs rfl rfl rfl

theorem AlarmInvariant.answerRouteWrite (kind mask enable : Byte) : P (answerRouteWrite kind mask enable s).state := by
  simp only [Machine.answerRouteWrite]
  split
  · exact hs
  · split
    · exact hs
    · split
      · exact h.same hs
      · exact hs

theorem AlarmInvariant.answerSetHistoryPolicy (policy : Byte) : P (answerSetHistoryPolicy policy s).state := by
  simp only [Machine.answerSetHistoryPolicy]
  split
  · exact hs
  · split
    · exact h.same hs rfl rfl rfl
    · exact hs

theorem AlarmInvariant.answerClearFault (kind : Byte) : P (answerClearFault kind s).state := by
  simp only [Machine.answerClearFault]
  split
  · exact hs
  · split
    · exact hs
    · exact h.same hs rfl rfl rfl
    · split
      · exact h.same hs rfl rfl rfl
      · exact hs

theorem AlarmInvariant.answerRaiseFault (number cls : Byte) : P (answerRaiseFault number cls s).state := by
  simp only [Machine.answerRaiseFault]
  split
  · exact hs
  · split
    · exact h.handleEvent hs _
    · exact hs

theorem AlarmInvariant.answerMode (target : Byte) : P (answerMode target s).state := by
  simp only [Machine.answerMode]
  split
  · simp only [answerModeSetup]
    split
    · exact hs
    · exact h.changeMode hs _ _
  · simp only [answerModeRun]
    split
    · exact hs
    · exact hs
    · split
      · exact hs
      · split
        · exact hs
        · split
          · exact hs
          · exact h.changeMode hs _ _
  · exact hs

theorem AlarmInvariant.answerSave : P (answerSave s).state := by
  simp only [Machine.answerSave]
  split
  · exact hs
  · split
    · exact hs
    · exact h.same hs rfl rfl rfl

theorem AlarmInvariant.answerReset : P (answerReset s).state := by
  simp only [Machine.answerReset]
  split
  · exact hs
  · exact h.same (t := s.abandonSave) hs

/-- RAISE is taken with the interlock released (R46). -/
theorem AlarmInvariant.answerRaise : P (answerRaise s).state := by
  simp only [Machine.answerRaise]
  split
  · next taken =>
    have released : s.alarm.interlock = false := (s.alarm.interlock_eq_false).2 ((s.canRaise_iff).1 taken).2.2
    exact h.notifyOrder hs _ fun _ => released
  · exact hs

theorem AlarmInvariant.answerBattery (value : Byte) : P (answerBattery value s).state := by
  simp only [Machine.answerBattery]
  split
  · exact hs
  · split
    · exact hs
    · split
      · exact h.same hs rfl rfl rfl
      · exact h.takeBatteryCut (h.same hs)

theorem AlarmInvariant.answerTractionInhibit (value : Byte) : P (answerTractionInhibit value s).state := by
  simp only [Machine.answerTractionInhibit]
  split
  · exact hs
  · split
    · exact hs
    · exact h.same hs rfl rfl rfl

end

end Sys2Proof.Machine

namespace Sys2Proof.Machine

section
variable {P : State → Prop} (h : AlarmInvariant P) {s : State} (hs : P s)
include h hs

/-! ## Frames and requests (R171, R172) -/

theorem AlarmInvariant.enterReply (p : PortId) (r : Reply) : P (s.enterReply p r) := h.changePort hs p _ rfl rfl

theorem AlarmInvariant.hunt (p : PortId) : P (s.hunt p) := h.changePort hs p _ rfl rfl

theorem AlarmInvariant.countOverrun (p : PortId) : P (s.countOverrun p) := h.changePort hs p _ rfl rfl

theorem AlarmInvariant.failFrame (p : PortId) (f : PortCounts → PortCounts) : P (s.failFrame p f) :=
  h.changePort hs p _ rfl rfl

theorem AlarmInvariant.receiving (p : PortId) (length : Option Nat) (body : List Byte) : P (s.receiving p length body) :=
  h.changePort hs p _ rfl rfl

theorem AlarmInvariant.takeRequest (p : PortId) (kind tag : Byte) (good : Bool) (take : State → Answer)
    (answered : P (take s).state) : P (s.takeRequest p kind tag good take) := by
  rcases s.takeRequest_cases p kind tag good take with ⟨_, e⟩ | ⟨_, _, e⟩ | ⟨_, _, _, e⟩ | ⟨_, _, _, e⟩ <;> rw [e]
  · exact h.countOverrun hs p
  · exact h.enterReply hs p _
  · exact h.enterReply hs p _
  · exact h.enterReply answered p _

theorem AlarmInvariant.answerFrame (p : PortId) (kind tag : Byte) (code : ReplyCode) :
    P (s.answerFrame p kind tag code) := by
  simp only [State.answerFrame]
  split
  · exact h.countOverrun hs p
  · exact h.enterReply hs p _

theorem AlarmInvariant.takeCommand (i : Instr) : P (s.takeCommand i) := by
  cases i with
  | readAllotment | readContact | readAlarms | readHistory | readFaults | readAux | readSection | readMeasure | readItem
  | check => exact h.takeRequest hs _ _ _ _ _ (by simpa using hs)
  | clearHistory | clearFlags => exact h.takeRequest hs _ _ _ _ _ (h.same hs rfl rfl rfl)
  | portStatus => exact h.takeRequest hs _ _ _ _ _ (h.answerPortStatus hs _ _)
  | poll => exact h.takeRequest hs _ _ _ _ _ (h.answerPoll hs _)
  | demand => exact h.takeRequest hs _ _ _ _ _ (h.answerDemand hs _ _)
  | auxStart => exact h.takeRequest hs _ _ _ _ _ (h.answerAuxStart hs _)
  | auxStop => exact h.takeRequest hs _ _ _ _ _ (h.answerAuxStop hs _)
  | setItem => exact h.takeRequest hs _ _ _ _ _ (h.answerSetItem hs _ _)
  | auxWrite => exact h.takeRequest hs _ _ _ _ _ (h.answerAuxWrite hs _ _)
  | auxRemove => exact h.takeRequest hs _ _ _ _ _ (h.answerAuxRemove hs _)
  | sectionWrite => exact h.takeRequest hs _ _ _ _ _ (h.answerSectionWrite hs _)
  | sectionErase => exact h.takeRequest hs _ _ _ _ _ (h.answerSectionErase hs)
  | sectionSet => exact h.takeRequest hs _ _ _ _ _ (h.answerSectionSet hs _)
  | sectionAhead => exact h.takeRequest hs _ _ _ _ _ (h.answerSectionAhead hs _)
  | routeWrite => exact h.takeRequest hs _ _ _ _ _ (h.answerRouteWrite hs _ _ _)
  | ackAlarm => exact h.takeRequest hs _ _ _ _ _ (h.acknowledge hs _ _)
  | setHistoryPolicy => exact h.takeRequest hs _ _ _ _ _ (h.answerSetHistoryPolicy hs _)
  | clearFault => exact h.takeRequest hs _ _ _ _ _ (h.answerClearFault hs _)
  | raiseFault => exact h.takeRequest hs _ _ _ _ _ (h.answerRaiseFault hs _ _)
  | mode => exact h.takeRequest hs _ _ _ _ _ (h.answerMode hs _)
  | save => exact h.takeRequest hs _ _ _ _ _ (h.answerSave hs)
  | reset => exact h.takeRequest hs _ _ _ _ _ (h.answerReset hs)
  | lower => exact h.takeRequest hs _ _ _ _ _ (h.lowerPoles hs)
  | raise => exact h.takeRequest hs _ _ _ _ _ (h.answerRaise hs)
  | battery => exact h.takeRequest hs _ _ _ _ _ (h.answerBattery hs _)
  | tractionInhibit => exact h.takeRequest hs _ _ _ _ _ (h.answerTractionInhibit hs _)
  | _ => exact hs

theorem AlarmInvariant.takeBody (p : PortId) (body : List Byte) : P (s.takeBody p body) := by
  simp only [State.takeBody]
  split
  · exact h.answerFrame hs _ _ _ _
  · exact h.answerFrame hs _ _ _ _
  · exact h.takeCommand hs _

theorem AlarmInvariant.takeByte (p : PortId) (b : Byte) (error : Bool) : P (s.takeByte p b error) := by
  simp only [State.takeByte]
  split
  · exact hs
  · split
    · exact h.failFrame hs p _
    · split
      · split
        · exact h.receiving hs p _ _
        · exact hs
      · split
        · exact h.receiving hs p _ _
        · exact h.failFrame hs p _
      · split
        · exact h.receiving hs p _ _
        · split
          · exact h.takeBody (h.hunt hs p) p _
          · exact h.failFrame hs p _

/-! ## Resets and time -/

/-- What a reset abandons is no entry of the list and no pole's state (R165). -/
theorem AlarmInvariant.abandon (w : Power) : P { s.abandon with power := w } := by
  refine h.frame (s := s) ⟨rfl, fun p => ?_, fun p => ?_, fun p => ?_⟩ hs
  · cases p <;> rfl
  · simp [State.role, State.abandon, Port.abandon]
  · simp [State.abandon, Port.abandon]

theorem AlarmInvariant.tick : P s.tick := by
  refine h.frame (s := s) ⟨rfl, fun p => ?_, fun p => ?_, fun p => ?_⟩ hs
  · cases p <;> rfl
  · simp [State.role, State.tick]
  · simp [State.tick]

end

section
variable {P : State → Prop} (h : AlarmInvariant P) (load : ∀ s : State, P s.load)
include h load

/-- Start-up keeps what loading gives: a report of the image is one event, and the first mode is entered with notices of
other kinds than POLE_ORDER (R167). -/
theorem AlarmInvariant.startUp (s : State) : P s.startUp := by
  have reported : P s.load.reportImage := by
    simp only [State.reportImage]
    split
    · exact h.handleEvent (load s) _
    · exact load s
  simp only [State.startUp, State.enterFirstMode]
  exact h.notifyOther (h.notifyOther (h.same reported) (by simp [Notice.kind])) (by simp [Notice.kind])

theorem AlarmInvariant.endHold {s : State} (hs : P s) : P s.endHold := by
  simp only [State.endHold]
  split
  · exact h.beginWaiting (h.startUp load s)
  · exact hs

theorem AlarmInvariant.transmitted {s : State} (hs : P s) (p : PortId) : P (s.transmitted p) := by
  simp only [State.transmitted]
  split
  · split
    · exact h.changePort hs p _ rfl rfl
    · split
      · exact h.startUp load _
      · exact h.changePort hs p _ rfl rfl
  · exact h.changePort hs p _ rfl rfl
  · exact hs

omit load in
/-- An event keeps the condition where what it does to a part out of reset does. -/
theorem AlarmInvariant.act {s t : State} {f : State → State} (hs : P s) (hf : P (f s)) (ht : s.act f = .next t) : P t := by
  simp only [State.act] at ht
  split at ht
  · cases ht
    exact h.beginWaiting hf
  · cases ht
    exact hs

omit load in
theorem AlarmInvariant.actFrame {s t : State} {p : PortId} {f : State → State} (hs : P s) (hf : P (f (s.hunt p)))
    (ht : s.actFrame p f = .next t) : P t := by
  refine h.act hs ?_ ht
  split
  · exact hs
  · exact hf

/-! ## Every command and every step -/

variable (sweep : ∀ {s : State}, P s → ∀ codes, P (s.sweep codes))
include sweep

theorem AlarmInvariant.exec_keeps (i : Instr) {s t : State} (hs : P s) (ht : exec i s = .next t) : P t := by
  cases hb : bodyOf i with
  | some x =>
    rw [exec_of_bodyOf i x hb] at ht
    exact h.actFrame hs (h.takeCommand (h.hunt hs _) i) ht
  | none =>
    unfold exec at ht
    cases i with
    | sweepCompletion codes =>
      refine h.act hs ?_ ht
      split
      · exact sweep hs codes
      · exact hs
    | seatTimerExpiry p => exact h.act hs (h.seatExpired hs p) ht
    | gapTimerExpiry => exact h.act hs (h.gapExpired hs) ht
    | loweringTimerExpiry => exact h.act hs (h.loweringExpired hs) ht
    | windowExpiry => exact h.act hs (h.windowExpired hs) ht
    | frameExpiry =>
      refine h.act hs ?_ ht
      split
      · exact h.expireFrame hs
      · exact hs
    | recloseExpiry =>
      refine h.act hs ?_ ht
      split
      · exact h.same hs
      · exact hs
    | inrushExpiry | onTimerExpiry | runTimerExpiry | offInhibitExpiry => exact h.act hs (h.auxEvent hs _ _ _) ht
    | stallTimerExpiry => exact h.act hs (h.stallExpired hs) ht
    | saveCompletion agrees => exact h.act hs (h.saveCompleted hs agrees) ht
    | receiveGapTimeout p =>
      refine h.act hs ?_ ht
      split
      · exact h.failFrame hs p _
      · exact hs
    | frameCheckFailed p failure => exact h.actFrame hs (h.failFrame (h.hunt hs p) p _) ht
    | unknownRequest p tag kind => exact h.actFrame hs (h.answerFrame (h.hunt hs p) _ _ _ _) ht
    | transmitComplete p => exact h.act hs (h.transmitted load hs p) ht
    | byteReceived p b error => exact h.act hs (h.takeByte hs p b error) ht
    | powerOn | supplyLow =>
      cases ht
      exact h.abandon hs _
    | retentionLost =>
      cases ht
      exact h.same hs
    | supplyStableExpiry =>
      simp only [execSupplyStableExpiry] at ht
      split at ht <;> cases ht
      · exact h.endHold load (h.same hs)
      · exact hs
    | pinResetAssert =>
      simp only [execPinResetAssert] at ht
      split at ht <;> cases ht
      · exact hs
      · exact h.abandon hs _
    | pinResetRelease =>
      simp only [execPinResetRelease] at ht
      split at ht <;> cases ht
      · exact h.endHold load (h.same hs)
      · exact hs
    | _ => cases hb

/-- A condition of the list, the DEWIRED poles and the queues that loading gives and a sweep completion keeps is kept by
every step. -/
theorem AlarmInvariant.step_keeps {s t : State} (hs : P s) (ht : step s = .next t) : P t := by
  cases queue : s.pending with
  | nil =>
    simp only [step, queue] at ht
    cases ht
    exact h.tick hs
  | cons i rest =>
    simp only [step, queue] at ht
    exact h.exec_keeps load sweep i (s := { s with pending := rest }) (h.same hs) ht

end

end Sys2Proof.Machine

namespace Sys2Proof.Machine

/-! ## One entry per key and no number twice (R37, R39) -/

/-- The law of the active list on the alarm unit alone. -/
def AlarmUnit.Distinct (u : AlarmUnit) : Prop :=
  (u.active.map AlarmEntry.key).Nodup ∧ (u.active.map AlarmEntry.number).Nodup

section
variable {u : AlarmUnit} (h : u.Distinct)
include h

/-- An entry of a new key under a number that no entry holds may join the list (R39, R40). -/
theorem AlarmUnit.Distinct.append {v : AlarmUnit} {e : AlarmEntry} (active : v.active = u.active ++ [e])
    (key : u.find e.key = none) (number : e.number ∉ u.active.map AlarmEntry.number) : v.Distinct := by
  have new : e.key ∉ u.active.map AlarmEntry.key := by
    intro held
    obtain ⟨x, hx, same⟩ := List.mem_map.1 held
    exact AlarmUnit.key_free_of_find key x hx same
  rw [AlarmUnit.Distinct, active, List.map_append, List.map_append]
  exact ⟨List.concat_eq_append ▸ h.1.concat new, List.concat_eq_append ▸ h.2.concat number⟩

/-- An entry may take the place of the one of its key under the same number (R42). -/
theorem AlarmUnit.Distinct.replace {old e : AlarmEntry} (held : old ∈ u.active) (key : e.key = old.key)
    (number : e.number = old.number) : (u.replace e).Distinct := by
  refine ⟨by rw [u.replace_keys]; exact h.1, ?_⟩
  rw [u.replace_numbers e fun x hx same => ?_]
  · exact h.2
  · rw [number, entry_eq_of_key h.1 hx held (same.trans key)]

theorem AlarmUnit.Distinct.remove (k : AlarmKey) : (u.remove k).Distinct :=
  ⟨h.1.sublist (List.filter_sublist.map _), h.2.sublist (List.filter_sublist.map _)⟩

theorem AlarmUnit.Distinct.ended (k : AlarmKey) : (u.ended k).Distinct := by
  rcases u.ended_cases k with ⟨e, _⟩ | ⟨e, found, _, ended⟩ | ⟨_, _, _, ended⟩
  · rw [e]; exact h
  · rw [ended]; exact h.replace (AlarmUnit.mem_of_find found) rfl rfl
  · rw [ended]; exact h.remove k

theorem AlarmUnit.Distinct.acknowledged (p : PortId) (number : Half) : (u.acknowledged p number).Distinct := by
  rcases u.acknowledged_cases p number with e | ⟨e, held, _, acknowledged⟩ | ⟨e, _, _, acknowledged⟩
  · rw [e]; exact h
  · rw [acknowledged]; exact h.replace held rfl rfl
  · rw [acknowledged]; exact h.remove _

end

theorem State.enterAlarm_distinct {s : State} (h : s.alarm.Distinct) (k : AlarmKey) (cls : Option ConditionClass)
    (b : ContactState) (n : Nat) : (s.enterAlarm k cls b n).alarm.Distinct := by
  obtain ⟨e, rfl, _, ⟨new, number, active⟩ | ⟨old, found, number, active⟩⟩ := s.enterAlarm_active k cls b n
  · exact h.append active new (number ▸ s.alarm.nextNumber_free h.1)
  · have replaced := h.replace (AlarmUnit.mem_of_find found) (AlarmUnit.key_of_find found).symm number
    rw [AlarmUnit.Distinct, active]
    exact replaced

/-- The law of the active list is one of the conditions that the commands keep. -/
theorem alarmLaw_invariant : AlarmInvariant State.AlarmLaw where
  frame same hs := by rw [State.AlarmLaw, same.active]; exact hs
  queueTo _ hs := hs
  enterAlarm _ hs := State.enterAlarm_distinct hs _
  conditionEnd _ hs := by
    show AlarmUnit.Distinct _
    rw [State.conditionEnd_alarm]
    exact AlarmUnit.Distinct.ended hs _
  acknowledge hs p number := by
    show AlarmUnit.Distinct _
    rw [answerAckAlarm_alarm]
    exact AlarmUnit.Distinct.acknowledged hs p number

/-- Loading empties the active list (R54, R167). -/
@[simp] theorem State.load_active (s : State) : s.load.alarm.active = [] := by
  simp only [State.load, AlarmUnit.afterReset]
  split <;> rfl

/-! ## A sweep completion as a hand-over (R7, R14) -/

/-- The state in which a sweep completion's sample set reaches the contact monitor: the MEASURE_FAULT events handled, the
accumulators counted (R7, R71). -/
def State.sampled (s : State) (codes : Vector RawCode 8) : State :=
  let steps := s.meas.takeCodes codes
  let measured := ({ s with meas := s.meas.complete steps } : State).handleEvents (faultEvents steps)
  { measured with allot :=
      { measured.allot with acc := measured.allot.acc.add (Vector.ofFn fun c => (steps[c]).value) } }

/-- A sweep completion ends in the hand-over of what the contact monitor makes of the sample set (R7, R14). -/
theorem State.sweep_eq_handOver (s : State) (codes : Vector RawCode 8) :
    let u := s.sampled codes
    let taken := u.contact.takeSet (s.meas.takeCodes codes)
    s.sweep codes =
      ({ u with contact := taken.1 } : State).handOver u.contact u.allot.record.tractionTotal taken.2 := rfl

theorem AlarmInvariant.sampled {P : State → Prop} (h : AlarmInvariant P) {s : State} (hs : P s)
    (codes : Vector RawCode 8) : P (s.sampled codes) := by
  simp only [State.sampled]
  refine h.same (h.handleEvents (faultEvents (s.meas.takeCodes codes)) ?_) rfl rfl rfl
  exact h.same hs rfl rfl rfl

/-- Among the alarms of the vehicle a sample set ends LOWER_STUCK alone (R28). -/
theorem ContactUnit.takeSet_vehicle (u : ContactUnit) (steps : Vector ChannelStep 8) :
    ∀ y ∈ (u.takeSet steps).2.vehicleAlarms, y.key.pole = none := by
  simp only [ContactUnit.takeSet]
  split <;> simp [AlarmSignal.key, AlarmKey.pole]

/-- A condition that does not rest on the contact monitor, and that the raises and ends of every key keep, is kept by a
sweep completion. -/
theorem AlarmInvariant.sweep_of_any_key {P : State → Prop} (h : AlarmInvariant P)
    (contact : ∀ {s : State} (c : ContactUnit), P s → P { s with contact := c })
    (enter : ∀ {s : State} (k : AlarmKey), P s → ∀ cls b n, P (s.enterAlarm k cls b n))
    (ended : ∀ {s : State} (k : AlarmKey), P s → P (s.conditionEnd k))
    {s : State} (hs : P s) (codes : Vector RawCode 8) : P (s.sweep codes) := by
  rw [s.sweep_eq_handOver]
  refine h.handOver h _ _ _ (fun hu => ?_) (ContactUnit.takeSet_vehicle _ _) (contact _ (h.sampled hs codes))
  exact h.takeAlarms (fun _ => True) (fun _ => enter _) (fun _ => ended _) _ _ _ (fun _ _ => trivial) hu

theorem State.AlarmLaw.step {s t : State} (hs : s.AlarmLaw) (ht : step s = .next t) : t.AlarmLaw := by
  refine alarmLaw_invariant.step_keeps (fun s => by simp [State.AlarmLaw]) (fun hs codes => ?_) hs ht
  exact alarmLaw_invariant.sweep_of_any_key (fun _ hs => hs) (fun k hs => State.enterAlarm_distinct hs k)
    (fun k hs => by
      show AlarmUnit.Distinct _
      rw [State.conditionEnd_alarm]
      exact AlarmUnit.Distinct.ended hs k) hs codes

/-! ## Raise orders (R47) -/

section
variable {s : State} (hs : s.RaiseLaw)
include hs

theorem State.RaiseLaw.queueTo {dest : PortId → Bool} {n : Notice} (may : s.MayQueue dest n) :
    (s.queueTo dest n).RaiseLaw := by
  obtain ⟨roofs, unwaiting⟩ := hs
  refine ⟨fun p role x hx => ?_, fun engaged p waits => ?_⟩
  · rw [State.queueTo_role] at role
    rw [State.queueTo_queue] at hx
    split at hx
    · next sent =>
      have other : n.kind ≠ .poleOrder := fun order => role ((may order).1 p sent)
      rcases mem_enqueue _ _ _ hx with old | rfl | ⟨m, _, kind, rfl⟩
      · exact roofs p role x old
      · exact other
      · rw [Notice.takeIn_kind m n kind]; exact other
    · exact roofs p role x hx
  · rw [State.queueTo_queue] at waits
    split at waits
    · rcases mem_enqueue_raise waits with old | raise
      · exact unwaiting engaged p old
      · have released := (may (by rw [raise]; rfl)).2 raise
        exact absurd (engaged.symm.trans released) (by simp)
    · exact unwaiting engaged p waits

/-- A list that engages the interlock only where it was engaged leaves the waiting raise orders lawful (R46, R47). -/
theorem State.RaiseLaw.changeAlarms {u : AlarmUnit} (engages : u.interlock = true → s.alarm.interlock = true) :
    (s.changeAlarms u).RaiseLaw :=
  State.RaiseLaw.queueTo (s := { s with alarm := u }) ⟨hs.1, fun engaged => hs.2 (engages engaged)⟩
    fun order => by simp [Notice.kind] at order

/-- Once the raise orders are withdrawn any list is lawful: none waits at a ROOF port, and at others none ever does (R47). -/
theorem State.RaiseLaw.withdrawn (u : AlarmUnit) : ({ s.withdrawRaise with alarm := u } : State).RaiseLaw := by
  refine ⟨fun p role x hx => ?_, fun _ p waits => ?_⟩
  · have other : s.role p ≠ .roof := fun roof => role ((s.withdrawRaise_role p).trans roof)
    have hx : x ∈ (s.withdrawRaise.ports[p]).queue := hx
    rw [s.withdrawRaise_port p, if_neg other] at hx
    exact hs.1 p other x hx
  · have waits : Notice.poleOrder .raise ∈ (s.withdrawRaise.ports[p]).queue := waits
    rw [s.withdrawRaise_port p] at waits
    split at waits
    · simp at waits
    · next other => exact hs.1 p other _ waits rfl

end

/-- A replacement engages the interlock only where its entry does or it was engaged (R46). -/
theorem AlarmUnit.replace_interlock {u : AlarmUnit} {e : AlarmEntry} (h : (u.replace e).interlock = true) :
    e.engages = true ∨ u.interlock = true := by
  simp only [AlarmUnit.interlock, AlarmUnit.replace, List.any_map, List.any_eq_true, Function.comp_apply] at h ⊢
  obtain ⟨x, hx, engages⟩ := h
  split at engages
  · exact .inl engages
  · exact .inr ⟨x, hx, engages⟩

theorem AlarmUnit.remove_interlock {u : AlarmUnit} {k : AlarmKey} (h : (u.remove k).interlock = true) :
    u.interlock = true := by
  simp only [AlarmUnit.interlock, AlarmUnit.remove, List.any_eq_true, List.mem_filter] at h ⊢
  obtain ⟨x, ⟨hx, _⟩, engages⟩ := h
  exact ⟨x, hx, engages⟩

/-- A condition end engages no interlock: an unacknowledged entry of a pole kind engaged it before (R43, R46). -/
theorem AlarmUnit.ended_interlock {u : AlarmUnit} {k : AlarmKey} (h : (u.ended k).interlock = true) :
    u.interlock = true := by
  rcases u.ended_cases k with ⟨e, _⟩ | ⟨e, found, state, ended⟩ | ⟨_, _, _, ended⟩
  · rwa [e] at h
  · rw [ended] at h
    refine (AlarmUnit.replace_interlock h).elim (fun engages => ?_) id
    exact List.any_eq_true.2 ⟨e, AlarmUnit.mem_of_find found, by simpa [AlarmEntry.engages, state] using engages⟩
  · rw [ended] at h
    exact AlarmUnit.remove_interlock h

/-- An acknowledgment engages no interlock (R44, R46). -/
theorem AlarmUnit.acknowledged_interlock {u : AlarmUnit} {p : PortId} {number : Half}
    (h : (u.acknowledged p number).interlock = true) : u.interlock = true := by
  rcases u.acknowledged_cases p number with e | ⟨e, _, _, acknowledged⟩ | ⟨e, _, _, acknowledged⟩
  · rwa [e] at h
  · rw [acknowledged] at h
    exact (AlarmUnit.replace_interlock h).elim (fun engages => by simp [AlarmEntry.engages] at engages) id
  · rw [acknowledged] at h
    exact AlarmUnit.remove_interlock h

/-- A raise of a key that is no pole's engages no interlock (R46). -/
theorem State.enterAlarm_interlock {s : State} {k : AlarmKey} {cls : Option ConditionClass} {b : ContactState} {n : Nat}
    (vehicle : k.pole = none) (h : (s.enterAlarm k cls b n).alarm.interlock = true) : s.alarm.interlock = true := by
  obtain ⟨e, key, _, ⟨_, _, active⟩ | ⟨_, _, _, active⟩⟩ := s.enterAlarm_active k cls b n
  all_goals have released : e.engages = false := by simp [AlarmEntry.engages, key, vehicle]
  · simpa [AlarmUnit.interlock, active, released] using h
  · have replaced : (s.alarm.replace e).interlock = true := by rwa [AlarmUnit.interlock, active] at h
    exact (AlarmUnit.replace_interlock replaced).elim (fun engages => by simp [released] at engages) id

section
variable {s : State} (hs : s.RaiseLaw)
include hs

theorem State.RaiseLaw.enterAlarm (k : AlarmKey) (cls : Option ConditionClass) (b : ContactState) (n : Nat) :
    (s.enterAlarm k cls b n).RaiseLaw := by
  have engages := s.enterAlarm_interlock (k := k) (cls := cls) (b := b) (n := n)
  rw [s.enterAlarm_eq]
  split
  · exact State.RaiseLaw.queueTo (s := { s.withdrawRaise with alarm := (s.enterAlarm k cls b n).alarm })
      (hs.withdrawn _) fun order => by simp [Notice.kind] at order
  · next vehicle => exact hs.changeAlarms (engages (by simpa using vehicle))

theorem State.RaiseLaw.conditionEnd (k : AlarmKey) : (s.conditionEnd k).RaiseLaw := by
  rcases s.conditionEnd_eq k with ⟨same, _⟩ | changed
  · rw [same]; exact hs
  · rw [changed]; exact hs.changeAlarms AlarmUnit.ended_interlock

theorem State.RaiseLaw.acknowledge (p : PortId) (number : Half) : (answerAckAlarm p number s).state.RaiseLaw := by
  rcases answerAckAlarm_state_eq p number s with ⟨same, _⟩ | changed
  · rw [same]; exact hs
  · rw [changed]; exact hs.changeAlarms AlarmUnit.acknowledged_interlock

end

theorem raiseLaw_invariant : AlarmInvariant State.RaiseLaw where
  frame {s t} same hs := by
    refine ⟨fun p role n waits => ?_, fun engaged p waits => ?_⟩
    · exact hs.1 p (by rwa [same.role p] at role) n (same.queue p waits)
    · rw [AlarmUnit.interlock, same.active] at engaged
      exact hs.2 engaged p (same.queue p waits)
  queueTo may hs := hs.queueTo may
  enterAlarm _ hs := hs.enterAlarm _
  conditionEnd _ hs := hs.conditionEnd _
  acknowledge hs p number := hs.acknowledge p number

theorem State.RaiseLaw.step {s t : State} (hs : s.RaiseLaw) (ht : step s = .next t) : t.RaiseLaw := by
  refine raiseLaw_invariant.step_keeps (fun s => ?_) (fun hs codes => ?_) hs ht
  · have empty : ∀ p : PortId, (s.load.ports[p]).queue = [] := by simp [State.load, Port.afterReset]
    refine ⟨fun p _ n waits => ?_, fun _ p waits => ?_⟩
    all_goals
      rw [empty p] at waits
      exact absurd waits List.not_mem_nil
  · exact raiseLaw_invariant.sweep_of_any_key (fun _ hs => hs) (fun k hs => hs.enterAlarm k)
      (fun k hs => hs.conditionEnd k) hs codes

end Sys2Proof.Machine

namespace Sys2Proof.Machine

/-! ## What a pole's record hands over on a sweep (R25, R27) -/

/-- A pole record raises an alarm of its pole as it becomes DEWIRED, ends its alarms as it leaves DEWIRED, and otherwise
neither hands anything over nor moves to or from DEWIRED (R25, R27). -/
def PoleStep (p : Pole) (before after : PoleRecord) (xs : List PoleSignal) : Prop :=
  (xs = [] ∧ (after.state == .dewired) = (before.state == .dewired)) ∨
    (∃ k c, xs = [.raised k c] ∧ k.pole = some p ∧ (after.state == .dewired) = true) ∨
    (xs = [.ended] ∧ (after.state == .dewired) = false)

/-- An assertion raises an alarm of the pole as the pole becomes DEWIRED, with its stow count at 0, or leaves its state
(R27). -/
theorem PoleRecord.takeAssertion_cases (r : PoleRecord) (p : Pole) (cls : ConditionClass) :
    ((r.takeAssertion p cls).2 = none ∧ (r.takeAssertion p cls).1.state = r.state) ∨
      ∃ k, (r.takeAssertion p cls).2 = some (.raised k cls) ∧ k.pole = some p ∧
        (r.takeAssertion p cls).1.state = .dewired ∧ (r.takeAssertion p cls).1.stowCount = 0 := by
  cases state : r.state with
  | onWire =>
    exact .inr ⟨.poleDrop p, by simp [PoleRecord.takeAssertion, PoleRecord.enter, state, AlarmKey.pole]⟩
  | raising =>
    cases cls with
    | low => exact .inl (by simp [PoleRecord.takeAssertion, state])
    | lateral | high =>
      exact .inr ⟨.raiseMiss p, by simp [PoleRecord.takeAssertion, PoleRecord.enter, state, AlarmKey.pole]⟩
  | _ => exact .inl (by simp [PoleRecord.takeAssertion, state])

/-- An elevation with the count at 0 hands nothing over: a change with a signal takes the fourth passing sweep (R25). -/
theorem PoleRecord.takeElevation_fresh (r : PoleRecord) (p : Pole) (level : Nat) (x : Int) (held settled : Bool)
    (fresh : r.stowCount = 0) (dewired : r.state = .dewired) :
    (r.takeElevation p level x held settled).2 = none ∧ (r.takeElevation p level x held settled).1.state = .dewired := by
  simp only [PoleRecord.takeElevation, fresh, dewired]
  cases held with
  | true => simp [dewired]
  | false =>
    simp only [Bool.false_eq_true, if_false, reduceCtorEq]
    split <;> simp

/-- An elevation makes a step of the pole (R25). -/
theorem PoleRecord.takeElevation_step (r : PoleRecord) (p : Pole) (level : Nat) (x : Int) (held settled : Bool) :
    PoleStep p r (r.takeElevation p level x held settled).1 (r.takeElevation p level x held settled).2.toList := by
  simp only [PoleRecord.takeElevation]
  split
  · exact .inl ⟨rfl, rfl⟩
  · split
    · next unknown =>
      split
      · refine .inl ⟨rfl, ?_⟩
        simp only [PoleRecord.enter, unknown]
        split <;> rfl
      · exact .inl ⟨rfl, rfl⟩
    · split
      · split
        · cases state : r.state with
          | onWire => exact .inr (.inl ⟨.poleDrop p, .low, rfl, rfl, rfl⟩)
          | dewired => exact .inr (.inr ⟨rfl, rfl⟩)
          | _ => exact .inl ⟨rfl, by simp [PoleRecord.enter, PoleState.afterStow, state]⟩
        · exact .inl ⟨rfl, rfl⟩
      · exact .inl ⟨rfl, rfl⟩

/-- An assertion and the elevation behind it make one step of the pole: where the assertion raises, the elevation of the
same sweep hands nothing over (R14, R25, R27). -/
theorem ContactUnit.stepPole_step (u : ContactUnit) (p : Pole) (assertion : Option ConditionClass) (step : ChannelStep)
    (settled : Bool) :
    PoleStep p (u.poles.get p) (u.stepPole p assertion step settled).1 (u.stepPole p assertion step settled).2 := by
  cases assertion with
  | none => exact PoleRecord.takeElevation_step _ _ _ _ _ _
  | some cls =>
    simp only [ContactUnit.stepPole]
    rcases (u.poles.get p).takeAssertion_cases p cls with ⟨silent, state⟩ | ⟨k, raised, pole, dewired, fresh⟩
    · rw [silent, Option.toList_none, List.nil_append]
      have moved := ((u.poles.get p).takeAssertion p cls).1.takeElevation_step p u.settings.stowLevel step.value step.held
        settled
      rwa [PoleStep, state] at moved
    · obtain ⟨silent, still⟩ := PoleRecord.takeElevation_fresh _ p u.settings.stowLevel step.value step.held settled
        fresh dewired
      rw [raised, silent]
      exact .inr (.inl ⟨k, cls, rfl, pole, by rw [still]; rfl⟩)

/-- On a sample set each pole makes its step, and the two steps' signals are the alarms of the poles, POS before NEG
(R14). -/
theorem ContactUnit.takeSet_steps (u : ContactUnit) (steps : Vector ChannelStep 8) :
    ∃ pos neg, (u.takeSet steps).2.poleAlarms =
        pos.flatMap (PoleSignal.alarms .pos) ++ neg.flatMap (PoleSignal.alarms .neg) ∧
      PoleStep .pos u.poles.pos (u.takeSet steps).1.poles.pos pos ∧
      PoleStep .neg u.poles.neg (u.takeSet steps).1.poles.neg neg :=
  ⟨_, _, rfl, u.stepPole_step .pos _ _ _, u.stepPole_step .neg _ _ _⟩

/-! ## The entries whose condition stands (R38, R43) -/

theorem AlarmUnit.stands_iff (u : AlarmUnit) (p : Pole) : u.stands p = true ↔ ∃ x ∈ u.active, x.holdsFor p = true := by
  simp [AlarmUnit.stands]

/-- A condition that stands for a pole is of a pole key (R38). -/
theorem AlarmEntry.pole_of_holdsFor {x : AlarmEntry} {p : Pole} (h : x.holdsFor p = true) : x.key.pole = some p := by
  simp only [AlarmEntry.holdsFor, Bool.and_eq_true, beq_iff_eq] at h
  exact h.1

theorem AlarmEntry.not_holdsFor_of_gone {x : AlarmEntry} (h : x.state = .goneUnack) (p : Pole) : x.holdsFor p = false := by
  simp [AlarmEntry.holdsFor, h]

/-- After a raise the conditions stand that stood, and the one raised (R40, R42). -/
theorem State.enterAlarm_stands (s : State) (k : AlarmKey) (cls : Option ConditionClass) (b : ContactState) (n : Nat)
    (p : Pole) : (s.enterAlarm k cls b n).alarm.stands p = (s.alarm.stands p || k.pole == some p) := by
  obtain ⟨e, key, state, ⟨_, _, active⟩ | ⟨old, found, _, active⟩⟩ := s.enterAlarm_active k cls b n
  all_goals have holds : e.holdsFor p = (k.pole == some p) := by simp [AlarmEntry.holdsFor, key, state]
  · simp [AlarmUnit.stands, active, holds]
  · have member := AlarmUnit.mem_of_find found
    have same := AlarmUnit.key_of_find found
    rw [Bool.eq_iff_iff, Bool.or_eq_true, AlarmUnit.stands_iff, AlarmUnit.stands_iff, active]
    simp only [AlarmUnit.replace, List.mem_map, key]
    constructor
    · rintro ⟨_, ⟨x, hx, rfl⟩, stands⟩
      split at stands
      · exact .inr (holds ▸ stands)
      · exact .inl ⟨x, hx, stands⟩
    · rintro (⟨x, hx, stands⟩ | raised)
      · by_cases own : x.key = k
        · refine ⟨_, ⟨x, hx, rfl⟩, ?_⟩
          rw [if_pos own, holds, beq_iff_eq, ← own]
          exact AlarmEntry.pole_of_holdsFor stands
        · exact ⟨_, ⟨x, hx, rfl⟩, by rw [if_neg own]; exact stands⟩
      · exact ⟨_, ⟨old, member, rfl⟩, by rw [if_pos same, holds]; exact raised⟩

section
variable {u : AlarmUnit} (h : u.Distinct)
include h

/-- After a condition end the entries of the other keys stand that stood, and none of its own (R43). -/
theorem AlarmUnit.Distinct.mem_ended (k : AlarmKey) (x : AlarmEntry) (p : Pole) :
    (x ∈ (u.ended k).active ∧ x.holdsFor p = true) ↔ (x ∈ u.active ∧ x.key ≠ k ∧ x.holdsFor p = true) := by
  rcases u.ended_cases k with ⟨same, gone⟩ | ⟨e, found, _, ended⟩ | ⟨e, _, _, ended⟩
  · rw [same]
    refine ⟨fun ⟨hx, stands⟩ => ⟨hx, fun own => ?_, stands⟩, fun ⟨hx, _, stands⟩ => ⟨hx, stands⟩⟩
    cases found : u.find k with
    | none => exact AlarmUnit.key_free_of_find found x hx own
    | some e =>
      have : x = e :=
        entry_eq_of_key h.1 hx (AlarmUnit.mem_of_find found) (own.trans (AlarmUnit.key_of_find found).symm)
      rw [this, AlarmEntry.not_holdsFor_of_gone (gone e found) p] at stands
      exact absurd stands (by simp)
  · rw [ended]
    simp only [AlarmUnit.replace, List.mem_map, AlarmUnit.key_of_find found]
    constructor
    · rintro ⟨⟨y, hy, rfl⟩, stands⟩
      split at stands
      · rw [AlarmEntry.not_holdsFor_of_gone rfl] at stands
        exact absurd stands (by simp)
      · next other => rw [if_neg other]; exact ⟨hy, other, stands⟩
    · rintro ⟨hx, other, stands⟩
      exact ⟨⟨x, hx, if_neg other⟩, stands⟩
  · rw [ended]
    simp [AlarmUnit.remove, and_assoc]

/-- A condition end of a key that is not the pole's leaves what stands for the pole (R43). -/
theorem AlarmUnit.Distinct.ended_stands_other {k : AlarmKey} {p : Pole} (other : k.pole ≠ some p) :
    (u.ended k).stands p = u.stands p := by
  rw [Bool.eq_iff_iff, AlarmUnit.stands_iff, AlarmUnit.stands_iff]
  simp only [h.mem_ended]
  refine ⟨fun ⟨x, hx, _, stands⟩ => ⟨x, hx, stands⟩, fun ⟨x, hx, stands⟩ => ⟨x, hx, fun own => other ?_, stands⟩⟩
  rw [← own]
  exact AlarmEntry.pole_of_holdsFor stands

/-- Once both of a pole's conditions have ended nothing stands for it (R43). -/
theorem AlarmUnit.Distinct.ended_stands_both (p : Pole) :
    ((u.ended (.poleDrop p)).ended (.raiseMiss p)).stands p = false := by
  rw [Bool.eq_false_iff, ne_eq, AlarmUnit.stands_iff]
  simp only [(h.ended (.poleDrop p)).mem_ended]
  rintro ⟨x, hx, other, stands⟩
  have drop : x.key ≠ .poleDrop p := ((h.mem_ended (.poleDrop p) x p).1 ⟨hx, stands⟩).2.1
  have pole := AlarmEntry.pole_of_holdsFor stands
  cases key : x.key <;> simp_all [AlarmKey.pole]

/-- An acknowledgment leaves what stands: an acknowledged condition still holds, and a removed one had gone (R44). -/
theorem AlarmUnit.Distinct.acknowledged_stands (q : PortId) (number : Half) (p : Pole) :
    (u.acknowledged q number).stands p = u.stands p := by
  rw [Bool.eq_iff_iff, AlarmUnit.stands_iff, AlarmUnit.stands_iff]
  rcases u.acknowledged_cases q number with same | ⟨e, held, state, acknowledged⟩ | ⟨e, held, state, acknowledged⟩
  · rw [same]
  · have own {x : AlarmEntry} (hx : x ∈ u.active) (key : x.key = e.key) : x = e := entry_eq_of_key h.1 hx held key
    have same : AlarmEntry.holdsFor { e with state := .activeAck, ackPort := some q } p = e.holdsFor p := by
      rw [AlarmEntry.holdsFor, AlarmEntry.holdsFor, state]; rfl
    simp only [acknowledged, AlarmUnit.replace, List.mem_map]
    constructor
    · rintro ⟨_, ⟨x, hx, rfl⟩, stands⟩
      split at stands
      · exact ⟨e, held, same ▸ stands⟩
      · exact ⟨x, hx, stands⟩
    · rintro ⟨x, hx, stands⟩
      refine ⟨_, ⟨x, hx, rfl⟩, ?_⟩
      split
      · next key => rw [same, ← own hx key]; exact stands
      · exact stands
  · simp only [acknowledged, AlarmUnit.remove, List.mem_filter]
    refine ⟨fun ⟨x, hx, stands⟩ => ⟨x, hx.1, stands⟩, fun ⟨x, hx, stands⟩ => ⟨x, ⟨hx, ?_⟩, stands⟩⟩
    by_contra key
    have : x = e := entry_eq_of_key h.1 hx held (by simpa using key)
    rw [this, AlarmEntry.not_holdsFor_of_gone state p] at stands
    exact absurd stands (by simp)

end

/-! ## The DEWIRED poles and the entries that stand for them (R43) -/

/-- The list has one entry per key and no number twice, and of each pole a condition holds of whether it is DEWIRED and
whether an entry stands for it. -/
def State.PolesStand (c : Pole → Bool → Bool → Prop) (s : State) : Prop :=
  s.alarm.Distinct ∧ ∀ p, c p (s.dewired p) (s.alarm.stands p)

theorem State.polesStand_iff (s : State) :
    s.PolesStand (fun _ dewired stands => dewired = stands) ↔ s.AlarmLaw ∧ s.PoleLaw .pos ∧ s.PoleLaw .neg := by
  rw [s.poleLaw_iff, s.poleLaw_iff]
  refine and_congr Iff.rfl ⟨fun h => ⟨h .pos, h .neg⟩, fun ⟨pos, neg⟩ p => ?_⟩
  cases p with
  | pos => exact pos
  | neg => exact neg

theorem State.PolesStand.mono {c c' : Pole → Bool → Bool → Prop} {s : State} (h : s.PolesStand c)
    (imp : ∀ p d a, c p d a → c' p d a) : s.PolesStand c' :=
  ⟨h.1, fun p => imp p _ _ (h.2 p)⟩

/-- Where the list keeps its law, a change that leaves the DEWIRED poles and what stands leaves every such condition. -/
theorem State.PolesStand.congr {c : Pole → Bool → Bool → Prop} {s t : State} (h : s.PolesStand c)
    (distinct : t.alarm.Distinct) (dewired : ∀ p, t.dewired p = s.dewired p)
    (stands : ∀ p, t.alarm.stands p = s.alarm.stands p) : t.PolesStand c :=
  ⟨distinct, fun p => by rw [dewired, stands]; exact h.2 p⟩

theorem polesStand_invariant (c : Pole → Bool → Bool → Prop) : AlarmInvariant (State.PolesStand c) where
  frame same hs := hs.congr (alarmLaw_invariant.frame same hs.1) same.dewired fun p => by
    rw [AlarmUnit.stands, same.active]; rfl
  queueTo _ hs := hs
  enterAlarm vehicle hs cls b n := hs.congr (State.enterAlarm_distinct hs.1 _ _ _ _)
    (fun p => by rw [State.dewired, State.enterAlarm_contact]; rfl)
    fun p => by rw [State.enterAlarm_stands, vehicle]; simp
  conditionEnd {s k} vehicle hs := hs.congr (alarmLaw_invariant.conditionEnd vehicle hs.1)
    (fun p => by rw [State.dewired, State.conditionEnd_contact]; rfl)
    fun p => by rw [State.conditionEnd_alarm]; exact hs.1.ended_stands_other (by simp [vehicle])
  acknowledge hs q number := hs.congr (alarmLaw_invariant.acknowledge hs.1 q number)
    (fun p => by rw [State.dewired, answerAckAlarm_contact]; rfl)
    fun p => by rw [answerAckAlarm_alarm]; exact hs.1.acknowledged_stands q number p

/-- What a pole hands over brings the list in line with its record: from a pole's condition before its step to the one
after, with the other pole's as it was (R27, R43). -/
theorem State.PolesStand.takeStep {D A : Pole → Bool} {s : State}
    (hs : s.PolesStand fun p dewired stands => dewired = D p ∧ stands = A p) (p : Pole) (before after : PoleRecord)
    (xs : List PoleSignal) (step : PoleStep p before after xs) (hb : A p = (before.state == .dewired))
    (ha : D p = (after.state == .dewired)) (b : ContactState) (n : Nat) :
    ((xs.flatMap (PoleSignal.alarms p)).foldl (State.takeAlarm b n) s).PolesStand
      fun q dewired stands => dewired = D q ∧ stands = if q = p then D q else A q := by
  rcases step with ⟨rfl, same⟩ | ⟨k, c, rfl, pole, dewired⟩ | ⟨rfl, left⟩
  · refine hs.mono fun q d a ⟨hd, stands⟩ => ⟨hd, ?_⟩
    split
    · next own => rw [stands, own, hb, ha, same]
    · exact stands
  · refine (polesStand_invariant _).handleEvent ⟨State.enterAlarm_distinct hs.1 _ _ _ _, fun q => ?_⟩ _
    obtain ⟨hd, stands⟩ := hs.2 q
    refine ⟨by rw [State.dewired, State.enterAlarm_contact]; exact hd, ?_⟩
    rw [State.enterAlarm_stands, stands, pole]
    split
    · next own => rw [own, ha, dewired]; simp
    · next other => simp [Ne.symm other]
  · have alarm : ((s.conditionEnd (.poleDrop p)).conditionEnd (.raiseMiss p)).alarm =
        (s.alarm.ended (.poleDrop p)).ended (.raiseMiss p) := by simp
    have first := hs.1.ended (.poleDrop p)
    refine ⟨?_, fun q => ⟨?_, ?_⟩⟩
    · show AlarmUnit.Distinct ((s.conditionEnd (.poleDrop p)).conditionEnd (.raiseMiss p)).alarm
      rw [alarm]
      exact first.ended _
    · show State.dewired ((s.conditionEnd (.poleDrop p)).conditionEnd (.raiseMiss p)) q = _
      rw [State.dewired, State.conditionEnd_contact, State.conditionEnd_contact]
      exact (hs.2 q).1
    · show ((s.conditionEnd (.poleDrop p)).conditionEnd (.raiseMiss p)).alarm.stands q = _
      rw [alarm]
      split
      · next own => rw [own, ha, left]; exact hs.1.ended_stands_both p
      · next other =>
        have notOwn : (some p : Option Pole) ≠ some q := fun same => other (Option.some.inj same).symm
        rw [first.ended_stands_other (k := .raiseMiss p) notOwn, hs.1.ended_stands_other (k := .poleDrop p) notOwn]
        exact (hs.2 q).2

/-- A sweep completion brings the list in line with both poles' records (R14, R27, R43). -/
theorem State.PolesStand.sweep {s : State} (hs : s.PolesStand fun _ dewired stands => dewired = stands)
    (codes : Vector RawCode 8) : (s.sweep codes).PolesStand fun _ dewired stands => dewired = stands := by
  have sampled := (polesStand_invariant _).sampled hs codes
  rw [s.sweep_eq_handOver]
  generalize s.sampled codes = u at sampled
  generalize s.meas.takeCodes codes = steps
  obtain ⟨pos, neg, alarms, posStep, negStep⟩ := u.contact.takeSet_steps steps
  set taken : State := { u with contact := (u.contact.takeSet steps).1 }
  have before : taken.PolesStand fun p dewired stands => dewired = taken.dewired p ∧ stands = u.dewired p :=
    ⟨sampled.1, fun p => ⟨rfl, (sampled.2 p).symm⟩⟩
  refine (polesStand_invariant _).handOver (polesStand_invariant _) _ _ _ (fun hu => ?_)
    (u.contact.takeSet_vehicle steps) before
  rw [alarms, List.foldl_append]
  have half := hu.takeStep .pos _ _ pos posStep rfl rfl u.contact.contact u.allot.record.tractionTotal
  have whole := half.takeStep (A := fun p => if p = .pos then taken.dewired p else u.dewired p) .neg _ _ neg negStep
    rfl rfl u.contact.contact u.allot.record.tractionTotal
  refine whole.mono fun p dewired stands ⟨d, a⟩ => ?_
  cases p <;> simp_all

/-- Settles O33: each law is a condition of the list, the DEWIRED poles and the queues, and besides
start-up, which clears list and poles, the sweep completion alone moves a pole to or from DEWIRED. -/
theorem alarmLawsAreKept : Obligations.AlarmLawsAreKept := by
  refine ⟨fun s t law ht => law.step ht, fun s t law pos neg ht => ?_, fun s t law ht => law.step ht⟩
  have kept := (polesStand_invariant fun _ dewired stands => dewired = stands).step_keeps
    (fun s => ⟨by simp [AlarmUnit.Distinct], fun p => ?_⟩) State.PolesStand.sweep
    (s.polesStand_iff.2 ⟨law, pos, neg⟩) ht
  · exact (t.polesStand_iff.1 kept).2
  · rw [AlarmUnit.stands, State.load_active]
    cases p <;> rfl

end Sys2Proof.Machine

namespace Sys2Proof

theorem half_eq_zero_iff (x : Half) : x = 0 ↔ x.toNat = 0 := BitVec.toNat_inj.symm

/-- The fields' ranges, as numbers (R55). -/
theorem SectionFields.ranged_iff (f : SectionFields) : f.ranged = true ↔
    1 ≤ f.id.toNat ∧ f.id.toNat ≤ 4095 ∧ f.iFeed.toNat ≤ 1000 ∧ f.iRgmax.toNat ≤ 800 ∧ f.permitted.toNat ≤ 1 ∧
      (f.override.toNat = 0 ∨ 100 ≤ f.override.toNat ∧ f.override.toNat ≤ 5000) := by
  rw [SectionFields.ranged, decide_eq_true_eq, half_eq_zero_iff]

end Sys2Proof

namespace Sys2Proof.Machine

/-! ## The section table under an insertion (R55, R58) -/

/-- The ids ascend: each entry's is below those of all that follow (R55). -/
theorem idsAscend_iff (l : List SectionEntry) : idsAscend l = true ↔ l.Pairwise fun a b => a.id < b.id := by
  induction l with
  | nil => simp [idsAscend]
  | cons a l ih =>
    cases l with
    | nil => simp [idsAscend]
    | cons b l =>
      simp only [idsAscend, Bool.and_eq_true, decide_eq_true_eq, ih, List.pairwise_cons, List.forall_mem_cons]
      refine ⟨fun ⟨next, below, rest⟩ => ⟨⟨next, fun x hx => next.trans (below x hx)⟩, below, rest⟩,
        fun ⟨⟨next, _⟩, below, rest⟩ => ⟨next, below, rest⟩⟩

section
variable (e : SectionEntry) (l : List SectionEntry)

theorem mem_insertSection {x : SectionEntry} (h : x ∈ insertSection e l) : x = e ∨ x ∈ l := by
  induction l with
  | nil => simpa [insertSection] using h
  | cons y l ih =>
    simp only [insertSection] at h
    split at h
    · simpa using h
    · split at h
      · rcases List.mem_cons.1 h with own | rest
        · exact .inl own
        · exact .inr (List.mem_cons_of_mem _ rest)
      · rcases List.mem_cons.1 h with rfl | rest
        · simp
        · exact (ih rest).imp id (List.mem_cons_of_mem _)

/-- An insertion keeps the ids ascending (R55). -/
theorem insertSection_idsAscend (h : idsAscend l = true) : idsAscend (insertSection e l) = true := by
  rw [idsAscend_iff] at h ⊢
  induction l with
  | nil => simp [insertSection]
  | cons x l ih =>
    obtain ⟨below, rest⟩ := List.pairwise_cons.1 h
    simp only [insertSection]
    split
    · next lower =>
      refine List.pairwise_cons.2 ⟨List.forall_mem_cons.2 ⟨lower, fun y hy => lower.trans (below y hy)⟩, h⟩
    · split
      · next same => exact List.pairwise_cons.2 ⟨fun y hy => same ▸ below y hy, rest⟩
      · next notLower other =>
        refine List.pairwise_cons.2 ⟨fun y hy => ?_, ih rest⟩
        rcases mem_insertSection e l hy with rfl | old
        · omega
        · exact below y old

/-- An insertion removes no entry. -/
theorem length_le_insertSection : l.length ≤ (insertSection e l).length := by
  induction l with
  | nil => simp
  | cons x l ih =>
    simp only [insertSection]
    split
    · simp
    · split
      · simp
      · simpa using ih

/-- An entry of a new id is one entry more. -/
theorem insertSection_length_new (h : ∀ x ∈ l, x.id ≠ e.id) : (insertSection e l).length = l.length + 1 := by
  induction l with
  | nil => rfl
  | cons x l ih =>
    obtain ⟨first, rest⟩ := List.forall_mem_cons.1 h
    simp only [insertSection, Ne.symm first, if_false]
    split
    · rfl
    · simp [ih rest]

/-- An entry of an id that an ascending table holds takes the old one's place (R58). -/
theorem insertSection_length_held (ascend : idsAscend l = true) (held : ∃ x ∈ l, x.id = e.id) :
    (insertSection e l).length = l.length := by
  rw [idsAscend_iff] at ascend
  induction l with
  | nil => simp at held
  | cons x l ih =>
    obtain ⟨below, rest⟩ := List.pairwise_cons.1 ascend
    obtain ⟨y, hy, own⟩ := held
    simp only [insertSection]
    rcases List.mem_cons.1 hy with rfl | later
    · simp [own]
    · have higher := below y later
      rw [if_neg (by omega), if_neg (by omega)]
      simp [ih rest ⟨y, later, own⟩]

end

/-! ## Finding a section by its id, and the checks of an entry (R55, R58) -/

section
variable (u : SectionUnit)

theorem SectionUnit.find_isSome_iff (id : Nat) : (u.find id).isSome = true ↔ ∃ x ∈ u.table, x.id = id := by
  simp [SectionUnit.find, List.find?_isSome]

theorem SectionUnit.find_eq_none_iff (id : Nat) : u.find id = none ↔ ∀ x ∈ u.table, x.id ≠ id := by
  simp [SectionUnit.find]

/-- The entry that the model writes is the one that the fields carry (R181). -/
@[simp] theorem sectionEntryOf_eq (f : SectionFields) : sectionEntryOf f = f.entry := by
  have permitted : (f.permitted.toNat == 1) = (f.permitted == 1) := by
    rw [Bool.eq_iff_iff, beq_iff_eq, beq_iff_eq]
    exact BitVec.toNat_inj (y := 1)
  simp only [sectionEntryOf, SectionFields.entry, permitted, half_eq_zero_iff]

/-- An entry passes the checks exactly where its fields are in range and the table holds its id or has room (R58). -/
theorem SectionUnit.checkEntry_eq_none_iff (f : SectionFields) : u.checkEntry f = none ↔
    f.ranged = true ∧ ((u.find f.id.toNat).isSome = true ∨ u.table.length < 32) := by
  have absent : (u.find f.id.toNat).isNone = true ↔ ¬(u.find f.id.toNat).isSome = true := by simp
  rw [f.ranged_iff]
  simp only [SectionUnit.checkEntry, absent]
  repeat' split
  all_goals simp only [reduceCtorEq, true_iff, false_iff]; grind

end

/-! ## The law on the section unit alone -/

/-- The table is in order and what refers to it lies inside it: what `State.SectionLaw` says, of the unit (R55, R56). -/
structure SectionUnit.Orderly (u : SectionUnit) : Prop where
  ascending : idsAscend u.table = true
  room : u.table.length ≤ 32
  current : ∀ id, u.current = some id → (u.find id).isSome = true
  pending : ∀ e, u.expectation = some e → (u.find e.pendingId).isSome = true

theorem State.sectionLaw_iff (s : State) : s.SectionLaw ↔ s.sections.Orderly :=
  ⟨fun ⟨a, b, c, d⟩ => ⟨a, b, c, d⟩, fun ⟨a, b, c, d⟩ => ⟨a, b, c, d⟩⟩

section
variable {u : SectionUnit} (h : u.Orderly)
include h

/-- An expectation may go (R65). -/
theorem SectionUnit.Orderly.drop : ({ u with expectation := none } : SectionUnit).Orderly :=
  ⟨h.ascending, h.room, h.current, nofun⟩

/-- An expectation of a section of the table may be opened or changed (R62, R63). -/
theorem SectionUnit.Orderly.expect {e : Expectation} (found : (u.find e.pendingId).isSome = true) :
    ({ u with expectation := some e } : SectionUnit).Orderly :=
  ⟨h.ascending, h.room, h.current, fun _ opened => by cases opened; exact found⟩

/-- A section of the table may become current, with no expectation left (R61, R63, R64). -/
theorem SectionUnit.Orderly.place {id : Nat} (found : (u.find id).isSome = true) :
    ({ u with current := some id, expectation := none } : SectionUnit).Orderly :=
  ⟨h.ascending, h.room, fun _ placed => by cases placed; exact found, nofun⟩

/-- The law does not rest on the settings. -/
theorem SectionUnit.Orderly.settings (x : SectionSettings) : ({ u with settings := x } : SectionUnit).Orderly :=
  ⟨h.ascending, h.room, h.current, h.pending⟩

omit h in
/-- An empty table refers to nothing and nothing refers to it (R60). -/
theorem SectionUnit.orderly_erased (x : SectionSettings) : (SectionUnit.mk [] none none x).Orderly :=
  ⟨rfl, by simp, nofun, nofun⟩

/-- Writing an entry that passed its checks keeps the table in order and every id that it holds (R55, R58). -/
theorem SectionUnit.Orderly.insert {f : SectionFields} (checked : u.checkEntry f = none) :
    ({ u with table := insertSection f.entry u.table } : SectionUnit).Orderly := by
  have kept (id : Nat) (held : (u.find id).isSome = true) :
      (SectionUnit.find { u with table := insertSection f.entry u.table } id).isSome = true := by
    rw [SectionUnit.find, insertSection_find]
    split
    · rfl
    · exact held
  refine ⟨insertSection_idsAscend _ _ h.ascending, ?_, fun id placed => kept id (h.current id placed),
    fun e opened => kept _ (h.pending e opened)⟩
  rcases ((u.checkEntry_eq_none_iff f).1 checked).2 with held | space
  · exact (insertSection_length_held f.entry u.table h.ascending ((u.find_isSome_iff _).1 held)).trans_le h.room
  · exact (insertSection_length f.entry u.table).trans space

end

/-- What start-up loads keeps the law: an image is valid only with its table in order, and the defaults hold none
(R68, R162). -/
theorem SectionUnit.afterReset_orderly (n : NvMemory) : (SectionUnit.afterReset n.judge.2).Orderly := by
  have erased : (SectionUnit.afterReset Image.defaults).Orderly := SectionUnit.orderly_erased _
  cases n with
  | erased | torn => exact erased
  | written g c =>
    simp only [NvMemory.judge]
    split
    · exact erased
    · split
      · next valid =>
        simp only [Image.inRange, Bool.and_eq_true, decide_eq_true_eq] at valid
        obtain ⟨-, ⟨⟨⟨⟨-, room⟩, -⟩, ascending⟩, -⟩, -⟩ := valid
        exact ⟨ascending, room, nofun, nofun⟩
      · exact erased

end Sys2Proof.Machine

namespace Sys2Proof.Machine

/-! ## What leaves the section unit as it was -/

section
variable (s : State)

@[simp] theorem answerPortStatus_sections (named clear : Byte) :
    (answerPortStatus named clear s).state.sections = s.sections := by
  simp only [answerPortStatus]
  split
  · rfl
  · split
    · rfl
    · split <;> rfl

@[simp] theorem answerPoll_sections (p : PortId) : (answerPoll p s).state.sections = s.sections := by
  simp only [answerPoll]; split <;> rfl

@[simp] theorem answerDemand_sections (mode : Byte) (magnitude : Half) :
    (answerDemand mode magnitude s).state.sections = s.sections := by
  simp only [answerDemand]; split <;> rfl

@[simp] theorem State.startAux_sections (i : Slot) (r : AuxRecord) :
    (s.startAux i r).state.sections = s.sections := by
  simp only [State.startAux]
  cases r.state with
  | idle => simp
  | cooldown => dsimp only; split <;> simp
  | shed => dsimp only; (repeat' split) <;> simp
  | _ => rfl

@[simp] theorem State.stopAux_sections (i : Slot) (r : AuxRecord) : (s.stopAux i r).state.sections = s.sections := by
  simp only [State.stopAux]
  cases r.state with
  | cooldown | shed => dsimp only; split <;> simp
  | _ => simp

@[simp] theorem State.writeAux_sections (i : Slot) (part : AuxConfig) (clamped : Bool) :
    (s.writeAux i part clamped).state.sections = s.sections := by
  simp only [State.writeAux]
  split
  · simp
  · split <;> simp

@[simp] theorem answerAuxStart_sections (slot : Byte) : (answerAuxStart slot s).state.sections = s.sections := by
  simp only [answerAuxStart]; split <;> simp

@[simp] theorem answerAuxStop_sections (slot : Byte) : (answerAuxStop slot s).state.sections = s.sections := by
  simp only [answerAuxStop]; split <;> simp

@[simp] theorem answerAuxWrite_sections (slot : Byte) (f : AuxFields) :
    (answerAuxWrite slot f s).state.sections = s.sections := by
  simp only [answerAuxWrite]; (repeat' split) <;> simp

@[simp] theorem answerAuxRemove_sections (slot : Byte) : (answerAuxRemove slot s).state.sections = s.sections := by
  simp only [answerAuxRemove]; (repeat' split) <;> simp

@[simp] theorem answerRouteWrite_sections (kind mask enable : Byte) :
    (answerRouteWrite kind mask enable s).state.sections = s.sections := by
  simp only [answerRouteWrite]; (repeat' split) <;> rfl

@[simp] theorem answerAckAlarm_sections (p : PortId) (n : Half) :
    (answerAckAlarm p n s).state.sections = s.sections := by
  simp only [answerAckAlarm]; (repeat' split) <;> rfl

@[simp] theorem answerClearHistory_sections : (answerClearHistory s).state.sections = s.sections := rfl

@[simp] theorem answerSetHistoryPolicy_sections (policy : Byte) :
    (answerSetHistoryPolicy policy s).state.sections = s.sections := by
  simp only [answerSetHistoryPolicy]; (repeat' split) <;> rfl

@[simp] theorem answerClearFault_sections (kind : Byte) : (answerClearFault kind s).state.sections = s.sections := by
  simp only [answerClearFault]; (repeat' split) <;> rfl

@[simp] theorem answerClearFlags_sections : (answerClearFlags s).state.sections = s.sections := rfl

@[simp] theorem answerMode_sections (target : Byte) : (answerMode target s).state.sections = s.sections := by
  simp only [answerMode, answerModeSetup, answerModeRun]; (repeat' split) <;> simp

@[simp] theorem answerSave_sections : (answerSave s).state.sections = s.sections := by
  simp only [answerSave]; (repeat' split) <;> rfl

@[simp] theorem answerReset_sections : (answerReset s).state.sections = s.sections := by
  simp only [answerReset]; split <;> simp

@[simp] theorem answerRaise_sections : (answerRaise s).state.sections = s.sections := by
  simp only [answerRaise]; split <;> rfl

@[simp] theorem answerBattery_sections (value : Byte) : (answerBattery value s).state.sections = s.sections := by
  simp only [answerBattery]; (repeat' split) <;> simp

@[simp] theorem answerTractionInhibit_sections (value : Byte) :
    (answerTractionInhibit value s).state.sections = s.sections := by
  simp only [answerTractionInhibit]; (repeat' split) <;> rfl

@[simp] theorem State.auxEvent_sections (i : Slot) (due : AuxRecord → Bool) (f : AuxRecord → Sequencer) :
    (s.auxEvent i due f).sections = s.sections := by
  simp only [State.auxEvent]; (repeat' split) <;> simp

@[simp] theorem State.saveCompleted_sections (agrees : Bool) : (s.saveCompleted agrees).sections = s.sections := by
  simp only [State.saveCompleted]; split <;> simp

@[simp] theorem State.setFilter_sections (m : MonitorId) (f : MonitorSetting → MonitorSetting) :
    (s.setFilter m f).sections = s.sections := by
  simp only [State.setFilter]; split <;> rfl

@[simp] theorem State.answerFrame_sections (p : PortId) (kind tag : Byte) (code : ReplyCode) :
    (s.answerFrame p kind tag code).sections = s.sections := by
  simp only [State.answerFrame]; split <;> rfl

end

/-! ## What the section unit's own operations make of it (R57 to R65) -/

section
variable (s : State)

@[simp] theorem State.placeSection_sections (c : Option Nat) :
    (s.placeSection c).sections = { s.sections with current := c, expectation := none } := rfl

@[simp] theorem State.writeSection_sections (e : SectionEntry) : (s.writeSection e).sections =
    { s.sections with table := insertSection e s.sections.table } := by
  simp only [State.writeSection]; split <;> simp

end

/-! ## What keeps the law: the signals, the router and the hand-over -/

section
variable {s : State} (h : s.sections.Orderly)
include h

theorem State.gapSeen_orderly : s.gapSeen.sections.Orderly := by
  simp only [State.gapSeen]
  split
  · next e opened => exact h.expect (e := { e with gapSeen := true }) (h.pending e opened)
  · exact h

theorem State.gapEnded_orderly : s.gapEnded.sections.Orderly := by
  simp only [State.gapEnded]
  split
  · next e opened =>
    split
    · simpa using h.place (h.pending e opened)
    · exact h
  · exact h

theorem State.sectionSignals_orderly (b a : ContactState) : (s.sectionSignals b a).sections.Orderly := by
  simp only [State.sectionSignals]
  split
  · exact h
  · split
    · exact State.gapSeen_orderly h
    · split
      · exact State.gapEnded_orderly h
      · exact h
    · exact h.drop

theorem State.lowerPoles_orderly : s.lowerPoles.sections.Orderly := by
  rw [s.lowerPoles_sections]
  split
  · exact h
  · exact h.drop

theorem State.handleEvent_orderly (e : Event) : (s.handleEvent e).sections.Orderly := by
  have latched : (s.latchEvent e).sections.Orderly := by simpa using h
  simp only [State.handleEvent]
  split
  · next a _ =>
    cases a with
    | lowerPoles => exact State.lowerPoles_orderly latched
    | tractionInhibit x => simpa [State.perform] using latched
  · exact latched

omit h in
theorem State.handleEvents_orderly (es : List Event) {s : State} (h : s.sections.Orderly) :
    (s.handleEvents es).sections.Orderly := by
  simp only [State.handleEvents]
  induction es generalizing s with
  | nil => exact h
  | cons e es ih => exact ih (State.handleEvent_orderly h e)

omit h in
theorem State.takeAlarms_orderly (b : ContactState) (n : Nat) (xs : List AlarmSignal) {s : State}
    (h : s.sections.Orderly) : (xs.foldl (State.takeAlarm b n) s).sections.Orderly := by
  induction xs generalizing s with
  | nil => exact h
  | cons x xs ih =>
    refine ih ?_
    cases x with
    | raised k c => exact State.handleEvent_orderly (s := s.enterAlarm k c b n) (by simpa using h) _
    | ended k => simpa [State.takeAlarm] using h

/-- A hand-over reaches the section unit by its signals and by what its events lower (R14, R33). -/
theorem State.handOver_orderly (before : ContactUnit) (n : Nat) (x : HandOver) :
    (s.handOver before n x).sections.Orderly := by
  have event (t : State) (c : Prop) [Decidable c] (e : Event) (ht : t.sections.Orderly) :
      (if c then t.handleEvent e else t).sections.Orderly := by
    split
    · exact State.handleEvent_orderly ht e
    · exact ht
  have cut (t : State) (c : Prop) [Decidable c] (ht : t.sections.Orderly) :
      (if c then t.takeOvervoltageCut else t).sections.Orderly := by
    split
    · simpa using ht
    · exact ht
  simp only [State.handOver, State.noticeContact_sections]
  refine event _ _ _ (event _ _ _ (State.takeAlarms_orderly _ _ _ ?_))
  rw [State.endLineLost_sections]
  exact State.takeAlarms_orderly _ _ _ (cut _ _ (State.sectionSignals_orderly (by simpa using h) _ _))

/-! ## What keeps the law: sweeps, expiries and frames -/

theorem State.sweep_orderly (codes : Vector RawCode 8) : (s.sweep codes).sections.Orderly := by
  have sampled : (s.sampled codes).sections.Orderly :=
    State.handleEvents_orderly (faultEvents (s.meas.takeCodes codes))
      (s := { s with meas := s.meas.complete (s.meas.takeCodes codes) }) h
  rw [s.sweep_eq_handOver]
  apply State.handOver_orderly
  exact sampled

theorem State.seatExpired_orderly (p : Pole) : (s.seatExpired p).sections.Orderly := by
  simp only [State.seatExpired]
  split
  · apply State.handOver_orderly
    exact h
  · exact h

theorem State.gapExpired_orderly : s.gapExpired.sections.Orderly := by
  simp only [State.gapExpired]
  split
  · apply State.handOver_orderly
    exact h
  · exact h

theorem State.loweringExpired_orderly : s.loweringExpired.sections.Orderly := by
  simp only [State.loweringExpired]
  split
  · apply State.handOver_orderly
    exact h
  · exact h

/-- The pending section lies in the table, so the expiry of its window may make it current (R64). -/
theorem State.windowExpired_orderly : s.windowExpired.sections.Orderly := by
  simp only [State.windowExpired]
  split
  · exact h
  · next e opened =>
    have found := h.pending e opened
    split
    · exact h
    · split
      · exact h.expect (e := { e with window := .expired }) found
      · exact State.handleEvent_orderly (by simpa using h.place found) _

theorem State.testEssential_orderly (r : Record) : (s.testEssential r).sections.Orderly := by
  simp only [State.testEssential]
  split
  · split
    · exact h
    · apply State.handleEvent_orderly
      exact h
  · exact h

theorem State.expireFrame_orderly : s.expireFrame.sections.Orderly := by
  have supervised (u : AllotmentUnit) (r : Record) (es : List Event) :
      ((({ s with allot := u } : State).takePublication r).publish.handleEvents es).sections.Orderly := by
    apply State.handleEvents_orderly
    simp only [State.publish_sections, State.takePublication, State.setAux_sections]
    exact State.testEssential_orderly (by simpa using h) r
  simp only [State.expireFrame]
  split
  · exact State.handleEvent_orderly (supervised _ _ _) _
  · exact supervised _ _ _

theorem State.stallExpired_orderly : s.stallExpired.sections.Orderly := by
  simp only [State.stallExpired]
  split
  · exact h
  · split
    · exact h
    · split
      · split
        · exact h
        · apply State.handleEvent_orderly
          exact h
      · exact h

/-! ## What keeps the law: items and requests -/

theorem NumericItem.store_orderly (v : Nat) (n : NumericItem) : (n.store s v).sections.Orderly := by
  cases n with
  | iFeedDefault | iRgmaxDefault =>
    simp only [NumericItem.store, State.handDefaultLimits_sections]
    exact h.settings _
  | expectWindow => exact h.settings _
  | _ => simpa [NumericItem.store] using h

theorem Item.write_orderly (v : Nat) (i : Item) : (i.write s v).state.sections.Orderly := by
  have named {α : Type} (x : Option α) (store : α → State) (hs : ∀ a, (store a).sections.Orderly) :
      (storeNamed s x store).state.sections.Orderly :=
    storeNamed_keeps (P := fun t => t.sections.Orderly) h x store hs
  cases i with
  | numeric n => exact NumericItem.store_orderly h _ n
  | enable m =>
    refine named _ _ fun on => ?_
    simp only [State.setEnable]
    split
    · exact h
    · apply State.handOver_orderly
      exact h
  | filterMode m => exact named _ _ fun _ => by simpa using h
  | decimation m => simpa [Item.write, storeLimited] using h
  | sweepPeriod | framePeriod | readOnly => exact h
  | boost | charge | autoRun | rate | parity | polarity | duplex | role => exact named _ _ fun _ => h

theorem answerSetItem_orderly (item value : Half) : (answerSetItem item value s).state.sections.Orderly := by
  simp only [answerSetItem]
  split
  · exact h
  · split
    · exact h
    · split
      · exact Item.write_orderly h _ _
      · exact h

theorem answerRaiseFault_orderly (number cls : Byte) : (answerRaiseFault number cls s).state.sections.Orderly := by
  simp only [answerRaiseFault]
  split
  · exact h
  · split
    · exact State.handleEvent_orderly h _
    · exact h

omit h in
/-- Each entry written has passed its checks against the table that the entries ahead of it leave (R58). -/
theorem State.writeSections_orderly (l : List SectionFields) {s : State} (h : s.sections.Orderly) :
    (s.writeSections l).1.sections.Orderly := by
  induction l generalizing s with
  | nil => exact h
  | cons f l ih =>
    simp only [State.writeSections]
    split
    · exact h
    · next checked => exact ih (by simpa using h.insert checked)

theorem answerSectionWrite_orderly (l : List SectionFields) : (answerSectionWrite l s).state.sections.Orderly := by
  simp only [answerSectionWrite]
  split
  · exact h
  · exact State.writeSections_orderly l h

theorem answerSectionErase_orderly : (answerSectionErase s).state.sections.Orderly := by
  simp only [answerSectionErase]
  split
  · exact h
  · split <;> simpa using SectionUnit.orderly_erased _

theorem answerSectionSet_orderly (id : Half) : (answerSectionSet id s).state.sections.Orderly := by
  simp only [answerSectionSet]
  split
  · exact h
  · next found =>
    have placed := h.place (id := id.toNat) (by simpa [Option.isSome_iff_ne_none] using found)
    split <;> simpa using placed

theorem answerSectionAhead_orderly (id : Half) : (answerSectionAhead id s).state.sections.Orderly := by
  simp only [answerSectionAhead]
  split
  · exact h
  · next found =>
    have opened := h.expect (e := s.sections.opened id.toNat)
      (by simpa [SectionUnit.opened, Option.isSome_iff_ne_none] using found)
    split
    · split
      · exact h
      · exact opened
    · exact opened

/-! ## What keeps the law: the ports -/

theorem State.takeRequest_orderly (p : PortId) (kind tag : Byte) (good : Bool) (take : State → Answer)
    (ht : (take s).state.sections.Orderly) : (s.takeRequest p kind tag good take).sections.Orderly := by
  rcases s.takeRequest_cases p kind tag good take with ⟨_, e⟩ | ⟨_, _, e⟩ | ⟨_, _, _, e⟩ | ⟨_, _, _, e⟩ <;> rw [e]
  · exact h
  · exact h
  · exact h
  · exact ht

theorem State.takeCommand_orderly (i : Instr) : (s.takeCommand i).sections.Orderly := by
  cases i with
  | setItem => exact State.takeRequest_orderly h _ _ _ _ _ (answerSetItem_orderly h _ _)
  | raiseFault => exact State.takeRequest_orderly h _ _ _ _ _ (answerRaiseFault_orderly h _ _)
  | sectionWrite => exact State.takeRequest_orderly h _ _ _ _ _ (answerSectionWrite_orderly h _)
  | sectionErase => exact State.takeRequest_orderly h _ _ _ _ _ (answerSectionErase_orderly h)
  | sectionSet => exact State.takeRequest_orderly h _ _ _ _ _ (answerSectionSet_orderly h _)
  | sectionAhead => exact State.takeRequest_orderly h _ _ _ _ _ (answerSectionAhead_orderly h _)
  | lower => exact State.takeRequest_orderly h _ _ _ _ _ (State.lowerPoles_orderly h)
  | readAllotment | readContact | readAlarms | readHistory | readFaults | readAux | readSection | readMeasure | readItem
  | portStatus | poll | demand | auxStart | auxStop | auxWrite | auxRemove | routeWrite | ackAlarm | clearHistory
  | setHistoryPolicy | clearFault | clearFlags | mode | check | save | reset | raise | battery | tractionInhibit =>
    exact State.takeRequest_orderly h _ _ _ _ _ (by simpa using h)
  | _ => exact h

theorem State.takeByte_orderly (p : PortId) (b : Byte) (error : Bool) : (s.takeByte p b error).sections.Orderly := by
  simp only [State.takeByte]
  split
  · exact h
  · split
    · exact h
    · split
      · split <;> exact h
      · split <;> exact h
      · split
        · exact h
        · split
          · simp only [State.takeBody]
            split
            · simpa using h
            · simpa using h
            · apply State.takeCommand_orderly
              exact h
          · exact h

end

/-! ## What keeps the law: start-up, every command and every step -/

/-- Start-up puts the section unit into its reset state, loaded from what the memory gives (R68, R167): the report of a
corrupt image routes no action. -/
theorem State.startUp_sections (s : State) : s.startUp.sections = .afterReset s.store.nv.judge.2 := by
  have reported (t : State) : t.reportImage.sections = t.sections := by
    simp only [State.reportImage]
    split
    · rw [State.handleEvent_plain _ _ rfl]
      simp
    · rfl
  exact reported s.load

theorem State.startUp_orderly (s : State) : s.startUp.sections.Orderly := by
  rw [s.startUp_sections]
  exact SectionUnit.afterReset_orderly _

section
variable {s t : State} (h : s.sections.Orderly)
include h

theorem State.endHold_orderly : s.endHold.sections.Orderly := by
  simp only [State.endHold]
  split
  · exact s.startUp_orderly
  · exact h

theorem State.transmitted_orderly (p : PortId) : (s.transmitted p).sections.Orderly := by
  simp only [State.transmitted]
  split
  · split
    · exact h
    · split
      · exact State.startUp_orderly _
      · exact h
  · exact h
  · exact h

/-- An event keeps the law where what it does to a part out of reset does. -/
theorem State.act_orderly {f : State → State} (hf : (f s).sections.Orderly) (ht : s.act f = .next t) :
    t.sections.Orderly := by
  simp only [State.act] at ht
  split at ht
  · cases ht
    exact hf
  · cases ht
    exact h

theorem State.actFrame_orderly {p : PortId} {f : State → State} (hf : (f (s.hunt p)).sections.Orderly)
    (ht : s.actFrame p f = .next t) : t.sections.Orderly := by
  refine State.act_orderly h ?_ ht
  split
  · exact h
  · exact hf

theorem exec_keeps_orderly (i : Instr) (ht : exec i s = .next t) : t.sections.Orderly := by
  cases hb : bodyOf i with
  | some x =>
    rw [exec_of_bodyOf i x hb] at ht
    exact State.actFrame_orderly h (State.takeCommand_orderly (by simpa using h) i) ht
  | none =>
    unfold exec at ht
    cases i with
    | sweepCompletion codes =>
      refine State.act_orderly h ?_ ht
      split
      · exact State.sweep_orderly h codes
      · exact h
    | seatTimerExpiry p => exact State.act_orderly h (State.seatExpired_orderly h p) ht
    | gapTimerExpiry => exact State.act_orderly h (State.gapExpired_orderly h) ht
    | loweringTimerExpiry => exact State.act_orderly h (State.loweringExpired_orderly h) ht
    | windowExpiry => exact State.act_orderly h (State.windowExpired_orderly h) ht
    | frameExpiry =>
      refine State.act_orderly h ?_ ht
      split
      · exact State.expireFrame_orderly h
      · exact h
    | recloseExpiry =>
      refine State.act_orderly h ?_ ht
      split <;> exact h
    | inrushExpiry | onTimerExpiry | runTimerExpiry | offInhibitExpiry =>
      exact State.act_orderly h (by simpa using h) ht
    | stallTimerExpiry => exact State.act_orderly h (State.stallExpired_orderly h) ht
    | saveCompletion agrees => exact State.act_orderly h (by simpa using h) ht
    | receiveGapTimeout p =>
      refine State.act_orderly h ?_ ht
      split <;> exact h
    | frameCheckFailed p failure => exact State.actFrame_orderly h (by simpa using h) ht
    | unknownRequest p tag kind => exact State.actFrame_orderly h (by simpa using h) ht
    | transmitComplete p => exact State.act_orderly h (State.transmitted_orderly h p) ht
    | byteReceived p b error => exact State.act_orderly h (State.takeByte_orderly h p b error) ht
    | powerOn | supplyLow =>
      cases ht
      exact h.drop
    | retentionLost =>
      cases ht
      exact h
    | supplyStableExpiry =>
      simp only [execSupplyStableExpiry] at ht
      split at ht <;> cases ht
      · apply State.endHold_orderly
        exact h
      · exact h
    | pinResetAssert =>
      simp only [execPinResetAssert] at ht
      split at ht <;> cases ht
      · exact h
      · exact h.drop
    | pinResetRelease =>
      simp only [execPinResetRelease] at ht
      split at ht <;> cases ht
      · apply State.endHold_orderly
        exact h
      · exact h
    | _ => cases hb

/-- A millisecond leaves the table, the current section and the pending id. -/
theorem State.tick_orderly : s.tick.sections.Orderly := by
  refine ⟨h.ascending, h.room, h.current, fun e ticked => ?_⟩
  obtain ⟨old, opened, rfl⟩ := Option.map_eq_some_iff.1 ticked
  exact h.pending old opened

end

/-- Settles O37: every way to change the section unit keeps the table in order and refers only to ids found in it, start-up
loads a table that the image's judgement found in order, and everything else leaves the unit. -/
theorem sectionLawIsKept : Obligations.SectionLawIsKept := by
  intro s t law ht
  have h := s.sectionLaw_iff.1 law
  refine t.sectionLaw_iff.2 ?_
  cases queue : s.pending with
  | nil =>
    simp only [step, queue] at ht
    cases ht
    exact State.tick_orderly h
  | cons i rest =>
    simp only [step, queue] at ht
    exact exec_keeps_orderly (s := { s with pending := rest }) h i ht

end Sys2Proof.Machine

namespace Sys2Proof.Machine

/-! ## Many insertions (R58) -/

/-- The table once the entries of a SECTION_WRITE are inserted one at a time. -/
def insertSections (good : List SectionFields) (table : List SectionEntry) : List SectionEntry :=
  good.foldl (fun l f => insertSection f.entry l) table

@[simp] theorem insertSections_cons (f : SectionFields) (good : List SectionFields) (l : List SectionEntry) :
    insertSections (f :: good) l = insertSections good (insertSection f.entry l) := rfl

section
variable (good : List SectionFields) (l : List SectionEntry)

theorem length_le_insertSections : l.length ≤ (insertSections good l).length := by
  induction good generalizing l with
  | nil => exact le_rfl
  | cons f good ih => exact (length_le_insertSection f.entry l).trans (ih _)

/-- An id that no entry carries reads as before. -/
theorem insertSections_find_other {id : Nat} (other : ∀ f ∈ good, f.id.toNat ≠ id) :
    (insertSections good l).find? (fun x => x.id = id) = l.find? (fun x => x.id = id) := by
  induction good generalizing l with
  | nil => rfl
  | cons f good ih =>
    obtain ⟨first, rest⟩ := List.forall_mem_cons.1 other
    rw [insertSections_cons, ih _ rest, insertSection_find]
    exact if_neg first

/-- Of the entries with one id the last stands. -/
theorem insertSections_find_last (f : SectionFields) (before after : List SectionFields)
    (last : ∀ x ∈ after, x.id ≠ f.id) :
    (insertSections (before ++ f :: after) l).find? (fun x => x.id = f.id.toNat) = some f.entry := by
  have split : insertSections (before ++ f :: after) l =
      insertSections after (insertSection f.entry (insertSections before l)) := by
    simp [insertSections, List.foldl_append]
  rw [split, insertSections_find_other after _ fun x hx same => last x hx (BitVec.eq_of_toNat_eq same),
    insertSection_find]
  exact if_pos rfl

end

/-! ## The entries of a SECTION_WRITE in the state (R58, R59) -/

/-- A limit change raises no line budget (R90). -/
theorem State.takeLimits_bLine_le (s : State) (l : Limits) :
    (s.takeLimits l).allot.record.bLine ≤ s.allot.record.bLine := by
  simp only [State.takeLimits]
  split
  · simp only [State.publish_allot, State.markCut_record, State.setRecord_record, Record.fitLimits, Record.withCeiling,
      Record.fitFeeder]
    split
    · next lower => exact lower.le
    · exact le_rfl
  · exact le_rfl

theorem State.writeSection_bLine_le (s : State) (e : SectionEntry) :
    (s.writeSection e).allot.record.bLine ≤ s.allot.record.bLine := by
  simp only [State.writeSection, State.handLimits]
  split
  · exact State.takeLimits_bLine_le _ _
  · exact le_rfl

/-- Only a rewrite of the current section reaches the allotment unit (R59). -/
theorem State.writeSection_allot (s : State) (e : SectionEntry) (other : s.sections.current ≠ some e.id) :
    (s.writeSection e).allot = s.allot := by
  simp only [State.writeSection, if_neg other]

/-- The state once the entries that pass their checks are written, one at a time. -/
def State.stored (s : State) (good : List SectionFields) : State :=
  good.foldl (fun u f => u.writeSection f.entry) s

section
variable (s : State) (f : SectionFields) (good : List SectionFields)

@[simp] theorem State.stored_nil : s.stored [] = s := rfl

@[simp] theorem State.stored_cons : s.stored (f :: good) = (s.writeSection f.entry).stored good := rfl

@[simp] theorem State.stored_sections :
    (s.stored good).sections = { s.sections with table := insertSections good s.sections.table } := by
  induction good generalizing s with
  | nil => rfl
  | cons f good ih => simp [ih]

/-- Beyond the section and the allotment unit the entries reach nothing (R59). -/
theorem State.stored_frame : (s.stored good).meas = s.meas ∧ (s.stored good).contact = s.contact ∧
    (s.stored good).aux = s.aux ∧ (s.stored good).router = s.router ∧ (s.stored good).alarm = s.alarm ∧
    (s.stored good).store = s.store := by
  induction good generalizing s with
  | nil => simp
  | cons f good ih => simpa using ih (s.writeSection f.entry)

theorem State.stored_bLine_le : (s.stored good).allot.record.bLine ≤ s.allot.record.bLine := by
  induction good generalizing s with
  | nil => exact le_rfl
  | cons f good ih => exact (ih _).trans (s.writeSection_bLine_le f.entry)

theorem State.stored_allot (other : ∀ f ∈ good, s.sections.current ≠ some f.id.toNat) :
    (s.stored good).allot = s.allot := by
  induction good generalizing s with
  | nil => rfl
  | cons f good ih =>
    obtain ⟨first, rest⟩ := List.forall_mem_cons.1 other
    rw [State.stored_cons, ih _ (by simpa using rest)]
    exact s.writeSection_allot f.entry first

/-- The entries in range ahead of a rest are all written, and then the rest's first is checked against the table that they
leave: an entry of a new id meets a table with room, since none of the later ones takes an entry away (R58). -/
theorem State.writeSections_append (rest : List SectionFields) (ranged : ∀ f ∈ good, f.ranged = true)
    (room : (insertSections good s.sections.table).length ≤ 32) :
    s.writeSections (good ++ rest) =
      (((s.stored good).writeSections rest).1, good.length + ((s.stored good).writeSections rest).2.1,
        ((s.stored good).writeSections rest).2.2) := by
  induction good generalizing s with
  | nil => simp
  | cons f good ih =>
    obtain ⟨first, others⟩ := List.forall_mem_cons.1 ranged
    have checked : s.sections.checkEntry f = none := by
      refine (s.sections.checkEntry_eq_none_iff f).2 ⟨first, or_iff_not_imp_left.2 fun absent => ?_⟩
      have new : ∀ x ∈ s.sections.table, x.id ≠ f.entry.id :=
        (s.sections.find_eq_none_iff f.id.toNat).1 (by simpa using absent)
      have more := insertSection_length_new f.entry s.sections.table new
      have kept := length_le_insertSections good (insertSection f.entry s.sections.table)
      rw [insertSections_cons] at room
      omega
    simp only [List.cons_append, State.writeSections, checked, sectionEntryOf_eq]
    rw [ih _ others (by simpa using room)]
    simp only [State.stored_cons, List.length_cons]
    congr 2
    omega

end

/-- The check that an entry fails: the first of the fields out of its range, and with all in range a full table that does
not hold its id (R58). -/
theorem SectionUnit.checkEntry_failing (u : SectionUnit) (f : SectionFields)
    (fails : f.ranged = false ∨ (u.table.length = 32 ∧ ∀ x ∈ u.table, x.id ≠ f.id.toNat)) :
    u.checkEntry f = some (
      if f.id = 0 ∨ 4095 < f.id.toNat then .id
      else if 1000 < f.iFeed.toNat then .iFeed
      else if 800 < f.iRgmax.toNat then .iRgmax
      else if 1 < f.permitted.toNat then .regen
      else if f.override ≠ 0 ∧ (f.override.toNat < 100 ∨ 5000 < f.override.toNat) then .gapOverride
      else .tableFull) := by
  have full : f.ranged = true → (u.find f.id.toNat).isNone = true ∧ 32 ≤ u.table.length := by
    intro ranged
    rcases fails with bad | ⟨length, new⟩
    · simp [ranged] at bad
    · exact ⟨Option.isNone_iff_eq_none.2 ((u.find_eq_none_iff _).2 new), length.ge⟩
  rw [f.ranged_iff] at full
  simp only [SectionUnit.checkEntry, half_eq_zero_iff, ne_eq]
  grind

/-- The writing stops at once where nothing is left or the next entry fails a check (R58). -/
theorem State.writeSections_stops (s : State) (rest : List SectionFields)
    (fails : ∀ f ∈ rest.head?, (s.sections.checkEntry f).isSome = true) :
    ∃ fault, s.writeSections rest = (s, 0, fault) ∧ (fault = none ↔ rest = []) ∧
      ∀ f ∈ rest.head?, fault = s.sections.checkEntry f := by
  cases rest with
  | nil => exact ⟨none, rfl, by simp, by simp⟩
  | cons f rest =>
    obtain ⟨fault, failing⟩ := Option.isSome_iff_exists.1 (fails f rfl)
    exact ⟨some fault, by simp only [State.writeSections, failing], by simp,
      fun x hx => by cases hx; exact failing.symm⟩

/-- Settles O34: the entries ahead of the first that fails are written one at a time, and the table that they leave decides
the check that the failing one meets. -/
theorem sectionWriteStoresItsEntries : Obligations.SectionWriteStoresItsEntries := by
  intro p tag es s hears least most h
  have counted : exec (.sectionWrite p tag es) s = s.actRequest p 0x23 tag (answerSectionWrite es) := by
    have good : entryCountGood es = true := by simp [entryCountGood, least, most]
    show execSectionWrite p tag es s = _
    rw [execSectionWrite, good]
    rfl
  obtain ⟨cab, other⟩ := State.actRequest_of_cab hears 0x23 tag (answerSectionWrite es) (by decide)
  refine ⟨fun hr => counted.trans (other hr), fun hr halt => (counted.trans (cab hr)).trans ?_, ?_⟩
  · simp [answerSectionWrite, halt, State.refuse, h]
  intro hr mode good rest whole ranged table room fails
  have written := h.writeSections_append good rest ranged room
  have sections := h.stored_sections good
  obtain ⟨meas, contact, aux, router, alarm, store⟩ := h.stored_frame good
  have answered : exec (.sectionWrite p tag es) s = .next ((h.writeSections es).1.answered p 0x23 tag
      (if (h.writeSections es).2.2.isSome then .abortedAt else .ok)
      (.sectionsWritten (h.writeSections es).2.1 (h.writeSections es).2.2)) := by
    rw [counted, cab hr]
    simp [answerSectionWrite, mode, h]
  have failing (f : SectionFields) (hf : f ∈ rest.head?) :=
    (h.stored good).sections.checkEntry_failing f (by rw [sections]; exact fails f hf)
  obtain ⟨fault, stopped, none_iff, named⟩ :=
    (h.stored good).writeSections_stops rest fun f hf => by rw [failing f hf]; rfl
  rw [whole, written, stopped] at answered
  refine ⟨h.stored good, fault, ?_, none_iff, fun f hf => ?_, by rw [sections]; rfl, fun f before after parts last => ?_,
    fun id absent => ?_, by rw [sections]; rfl, by rw [sections]; rfl, by rw [sections]; rfl,
    fun away => h.stored_allot good away, h.stored_bLine_le good, meas, contact, aux, router, alarm, store,
    fun empty => by rw [empty]; rfl⟩
  · simp only [whole, answered, ← none_iff]
    cases fault <;> rfl
  · rw [named f hf, failing f hf]
  · rw [sections, parts]
    exact insertSections_find_last _ f before after last
  · rw [sections]
    exact insertSections_find_other good _ absent

end Sys2Proof.Machine

namespace Sys2Proof.Machine

/-! ## The limits in use (R56, R57) -/

/-- With no current section the defaults are in use (R56). -/
theorem SectionUnit.limits_of_none (u : SectionUnit) (h : u.current = none) : u.limits = u.defaultLimits := by
  simp [SectionUnit.limits, h]

/-- With a current section of the table its own limits are in use (R57). -/
theorem SectionUnit.limits_of_find (u : SectionUnit) (id : Nat) (x : SectionEntry) (h : u.current = some id)
    (found : u.find id = some x) : u.limits = x.limits := by
  simp [SectionUnit.limits, h, found]

/-- A section placed hands on its own limits (R57). -/
theorem State.placeSection_handLimits (s : State) (id : Nat) (x : SectionEntry) (found : s.sections.find id = some x) :
    (s.placeSection (some id)).handLimits = (s.placeSection (some id)).takeLimits x.limits := by
  rw [State.handLimits, SectionUnit.limits_of_find (s.placeSection (some id)).sections id x rfl found]

/-! ## SECTION_ERASE and SECTION_SET (R60, R61) -/

/-- SECTION_ERASE outside HALT hands the default limits on where a section was current (R60). -/
theorem answerSectionErase_eq (s : State) (mode : s.router.mode ≠ .halt) :
    let erased : State := { s with sections := ⟨[], none, none, s.sections.settings⟩ }
    answerSectionErase s =
      (if s.sections.current = none then erased else erased.takeLimits s.sections.defaultLimits).ok := by
  intro erased
  have handed : erased.handLimits = erased.takeLimits s.sections.defaultLimits := by
    rw [State.handLimits, SectionUnit.limits_of_none _ rfl]
    rfl
  cases current : s.sections.current with
  | none => simp [answerSectionErase, mode, current, erased]
  | some id =>
    rw [if_neg (by simp), ← handed]
    simp [answerSectionErase, mode, current, erased]

theorem answerSectionSet_absent (id : Half) (s : State) (absent : s.sections.find id.toNat = none) :
    answerSectionSet id s = s.refuse .noSuch := by
  simp [answerSectionSet, absent]

/-- SECTION_SET of an id of the table hands its limits on where the current section changes (R61). -/
theorem answerSectionSet_eq (id : Half) (s : State) (x : SectionEntry) (found : s.sections.find id.toNat = some x) :
    answerSectionSet id s = (if s.sections.current = some id.toNat then s.placeSection (some id.toNat)
      else (s.placeSection (some id.toNat)).takeLimits x.limits).ok := by
  simp only [answerSectionSet, found, s.placeSection_handLimits _ x found, Option.isNone_some, Bool.false_eq_true,
    if_false]
  split <;> rfl

/-- Settles O35: each answer by its conditions, with the limits that the section unit has in use after it. -/
theorem sectionEraseAndSetPlaceTheVehicle : Obligations.SectionEraseAndSetPlaceTheVehicle := by
  intro p tag id s hears h u defaults erased placed erase set
  obtain ⟨eraseCab, eraseOther⟩ := State.actRequest_of_cab hears 0x24 tag answerSectionErase (by decide)
  obtain ⟨setCab, setOther⟩ := State.actRequest_of_cab hears 0x25 tag (answerSectionSet id) (by decide)
  refine ⟨fun hr => ⟨eraseOther hr, setOther hr⟩, fun hr => ⟨fun halt => (eraseCab hr).trans ?_,
    fun mode => (eraseCab hr).trans ?_, fun absent => (setCab hr).trans ?_, fun e found => (setCab hr).trans ?_⟩⟩
  · simp [answerSectionErase, halt, State.refuse, h]
  · rw [answerSectionErase_eq (s.hunt p) mode]
    rfl
  · rw [answerSectionSet_absent id (s.hunt p) absent]
    rfl
  · rw [answerSectionSet_eq id (s.hunt p) e found]
    rfl

/-! ## The expectation: announced, decided by its window, and by the signals of the contact monitor (R62 to R65) -/

/-- SECTION_AHEAD by its conditions in their order (R62). -/
theorem answerSectionAhead_eq (id : Half) (s : State) :
    let opened : State := { s with sections := { s.sections with
      expectation := some ⟨id.toNat, .running s.sections.settings.expectWindow, false⟩ } }
    (s.sections.find id.toNat = none → answerSectionAhead id s = s.refuse .noSuch) ∧
    ((s.sections.find id.toNat).isSome = true →
      (∀ e, s.sections.expectation = some e → answerSectionAhead id s =
        if e.gapSeen then s.refuse .busy else { state := opened, code := .replaced }) ∧
      (s.sections.expectation = none → answerSectionAhead id s = opened.ok)) := by
  intro opened
  refine ⟨fun absent => by simp [answerSectionAhead, absent], fun found => ?_⟩
  have present : (s.sections.find id.toNat).isNone = false := by simpa [Option.isSome_iff_ne_none] using found
  exact ⟨fun e running => by simp only [answerSectionAhead, present, running]; rfl,
    fun none => by simp only [answerSectionAhead, present, none]; rfl⟩

/-- With gap-seen set the expiry of the window changes the timer alone (R64). -/
theorem State.windowExpired_seen (s : State) (e : Expectation) (opened : s.sections.expectation = some e)
    (runs : e.window.isRunning = true) (seen : e.gapSeen = true) : s.windowExpired =
      { s with sections := { s.sections with expectation := some { e with window := .expired } } } := by
  simp [State.windowExpired, opened, runs, seen]

/-- With gap-seen clear the expiry of the window makes the pending section current and raises SECTION_NO_GAP (R64). -/
theorem State.windowExpired_unseen (s : State) (e : Expectation) (x : SectionEntry)
    (opened : s.sections.expectation = some e) (runs : e.window.isRunning = true) (unseen : e.gapSeen = false)
    (found : s.sections.find e.pendingId = some x) : s.windowExpired =
      ((s.placeSection (some e.pendingId)).takeLimits x.limits).handleEvent
        ⟨.sectionNoGap, .advisory, .sectionId (some e.pendingId)⟩ := by
  simp [State.windowExpired, opened, runs, unseen, s.placeSection_handLimits _ x found]

/-- A limit change fits the record in force to the limits where they lower it (R90). -/
theorem State.takeLimits_record (s : State) (l : Limits) : (s.takeLimits l).allot.record =
    if s.allot.record.limitLowers l then s.allot.record.fitLimits l else s.allot.record := by
  simp only [State.takeLimits]
  split <;> rfl

/-- An ADVISORY event without a routable action leaves the sequencer (R152). -/
theorem State.handleEvent_unacting_aux (s : State) (e : Event) (ha : e.cls = .advisory) (hk : e.kind.action = none) :
    (s.handleEvent e).aux = s.aux := by
  rw [s.handleEvent_plain e hk, s.latchEvent_advisory e ha]
  rfl

/-- An event leaves a latch set (R153). -/
theorem FaultEntry.record_latch_ne_none (f : FaultEntry) (e : Event) (frame : BitVec 32) :
    (f.record e frame).latch ≠ .none := by
  simp only [FaultEntry.record]
  cases f.latch <;> cases e.cls <;> simp [Latch.higher, EventClass.latch]

/-- The end of a gap completes an expectation whose gap has been seen (R63). -/
theorem State.gapEnded_seen (s : State) (e : Expectation) (x : SectionEntry) (opened : s.sections.expectation = some e)
    (seen : e.gapSeen = true) (found : s.sections.find e.pendingId = some x) :
    s.gapEnded = (s.placeSection (some e.pendingId)).takeLimits x.limits := by
  simp [State.gapEnded, opened, seen, s.placeSection_handLimits _ x found]

/-- Settles O36: an announcement by its conditions, the window's expiry by the gap-seen flag, and the signals by the
expectation that they meet. -/
theorem expectationIsOpenedAndDecided : Obligations.ExpectationIsOpenedAndDecided := by
  refine ⟨fun p tag id s hears => ?_, fun s e up opened runs => ⟨fun seen => ?_, fun unseen x found => ?_⟩,
    fun s => ⟨fun none => ?_, fun e opened => ⟨?_, fun unseen => ?_, fun seen x found => ?_⟩, rfl⟩⟩
  · obtain ⟨cab, other⟩ := State.actRequest_of_cab hears 0x26 tag (answerSectionAhead id) (by decide)
    obtain ⟨unknown, known⟩ := answerSectionAhead_eq id (s.hunt p)
    refine ⟨other, fun hr => ⟨fun absent => (cab hr).trans ?_, fun found => ?_⟩⟩
    · rw [unknown absent]
      rfl
    obtain ⟨replaces, opens⟩ := known found
    refine ⟨fun e opened seen => (cab hr).trans ?_, fun e opened unseen => (cab hr).trans ?_,
      fun none => (cab hr).trans ?_⟩
    · rw [replaces e opened, seen]
      rfl
    · rw [replaces e opened, unseen]
      rfl
    · rw [opens none]
      rfl
  · exact (s.act_of_up State.windowExpired up).trans (by rw [s.windowExpired_seen e opened runs seen])
  · set y := (s.placeSection (some e.pendingId)).takeLimits x.limits with hy
    set ev : Event := ⟨.sectionNoGap, .advisory, .sectionId (some e.pendingId)⟩ with hev
    have taken := s.act_of_up State.windowExpired up
    rw [s.windowExpired_unseen e x opened runs unseen found] at taken
    obtain ⟨contact, alarm, sections, allot⟩ := y.handleEvent_unacting ev rfl (.inr rfl)
    have router : y.router = s.router := by simp [hy]
    have entry : (y.handleEvent ev).router.faults[5] = (s.router.faults[5]).record ev y.allot.frame := by
      rw [← router]
      exact y.handleEvent_entry ev
    refine ⟨(y.handleEvent ev).beginWaiting, taken, ?_⟩
    simp only [State.beginWaiting_contact, State.beginWaiting_alarm, State.beginWaiting_sections,
      State.beginWaiting_allot, State.beginWaiting_router, State.beginWaiting_meas, State.beginWaiting_aux, contact, alarm,
      sections, allot, entry, y.handleEvent_mode ev rfl, y.handleEvent_unacting_aux ev rfl rfl, State.handleEvent_meas]
    refine ⟨?_, ?_, rfl, rfl, FaultEntry.record_latch_ne_none _ _ _, by rw [router], ?_, ?_, ?_, ?_⟩
    · simp [hy]
    · rw [hy, State.takeLimits_record]
      rfl
    all_goals simp [hy]
  · simp [State.gapSeen, State.gapEnded, none]
  · simp [State.gapSeen, opened]
  · simp [State.gapEnded, opened, unseen]
  · exact s.gapEnded_seen e x opened seen found

end Sys2Proof.Machine

namespace Sys2Proof.Machine

/-! ## Means and factors (R72, R75, R77, R102, R104) -/

/-- The mean of a frame with sample sets is the sum divided by their number, rounded toward minus infinity (R72). -/
theorem frameMean_within (quantity : Fin 4) (sum : Int) {n : Nat} (h : 0 < n) :
    frameMean quantity sum n * n ≤ sum ∧ sum < (frameMean quantity sum n + 1) * n := by
  have positive : (0 : Int) < n := Int.natCast_pos.2 h
  rw [frameMean, if_neg h.ne']
  exact ⟨Int.ediv_mul_le sum positive.ne', Int.lt_ediv_add_one_mul_self sum positive⟩

/-- The fraction of 1024 that a part has of a positive whole: no less than 0 and no more than 1024. -/
theorem fraction_bounds {part whole : Int} (nonneg : 0 ≤ part) (le : part ≤ whole) (positive : 0 < whole) :
    0 ≤ 1024 * part / whole ∧ 1024 * part / whole ≤ 1024 :=
  ⟨Int.ediv_nonneg (by omega) positive.le, Int.ediv_le_of_le_mul positive (by omega)⟩

/-- A rising factor by its table, its tests in order (R75, R77). -/
theorem risingFactor_table (empty full : Nat) (x : Int) :
    (x ≥ full → risingFactor empty full x = 1024) ∧ (x < full → x ≤ empty → risingFactor empty full x = 0) ∧
      (x < full → empty < x → (risingFactor empty full x : Int) = 1024 * (x - empty) / (full - empty)) := by
  refine ⟨fun above => if_pos above, fun below low => ?_, fun below high => ?_⟩
  · rw [risingFactor, if_neg (by omega), if_pos low]
  · rw [risingFactor, if_neg (by omega), if_neg (by omega)]
    exact Int.toNat_of_nonneg (fraction_bounds (by omega) (by omega) (by omega)).1

/-- A falling factor by its table, its tests in order (R102, R104). -/
theorem fallingFactor_table (full empty : Nat) (x : Int) :
    (x ≤ full → fallingFactor full empty x = 1024) ∧ (x > full → x ≥ empty → fallingFactor full empty x = 0) ∧
      (x > full → x < empty → (fallingFactor full empty x : Int) = 1024 * (empty - x) / (empty - full)) := by
  refine ⟨fun below => if_pos below, fun above high => ?_, fun above low => ?_⟩
  · rw [fallingFactor, if_neg (by omega), if_pos high]
  · rw [fallingFactor, if_neg (by omega), if_neg (by omega)]
    exact Int.toNat_of_nonneg (fraction_bounds (by omega) (by omega) (by omega)).1

theorem risingFactor_le (empty full : Nat) (x : Int) : risingFactor empty full x ≤ 1024 := by
  obtain ⟨above, low, between⟩ := risingFactor_table empty full x
  by_cases hf : x < full
  · by_cases he : empty < x
    · have bound := (fraction_bounds (part := x - empty) (whole := full - empty) (by omega) (by omega) (by omega)).2
      rw [← between hf he] at bound
      omega
    · rw [low hf (by omega)]
      omega
  · exact (above (by omega)).le

theorem fallingFactor_le (full empty : Nat) (x : Int) : fallingFactor full empty x ≤ 1024 := by
  obtain ⟨below, high, between⟩ := fallingFactor_table full empty x
  by_cases hf : x > full
  · by_cases he : x < empty
    · have bound := (fraction_bounds (part := empty - x) (whole := empty - full) (by omega) (by omega) (by omega)).2
      rw [← between hf he] at bound
      omega
    · rw [high hf (by omega)]
      omega
  · exact (below (by omega)).le

/-- Settles O38: each mean is the one division of R72, and each factor one of the two tables. -/
theorem meansAndFactorsFollowTheirRules : Obligations.MeansAndFactorsFollowTheirRules := by
  refine ⟨fun a sets => ⟨frameMean_within _ _ sets, frameMean_within _ _ sets, frameMean_within _ _ sets,
    frameMean_within _ _ sets⟩, fun u m => ?_⟩
  exact ⟨risingFactor_table _ _ _, risingFactor_table _ _ _, fallingFactor_table _ _ _, fallingFactor_table _ _ _,
    risingFactor_le _ _ _, risingFactor_le _ _ _, fallingFactor_le _ _ _, fallingFactor_le _ _ _⟩

/-- A current scaled by a factor is no larger. -/
theorem scaled_le (current : Nat) {factor : Nat} (h : factor ≤ 1024) : scaled current factor ≤ current :=
  Nat.div_le_of_le_mul (by rw [Nat.mul_comm]; exact Nat.mul_le_mul_right current h)

end Sys2Proof.Machine

namespace Sys2Proof.Machine

/-! ## What the laws of the allotment rest on (R85, R100, R105) -/

/-- The part of the state that the laws of the allotment speak of: the record in force, the mode, the contact state, the
reclose timer, the sections with their limits, and the battery's limit and availability. -/
structure AllotView where
  record : Record
  mode : Mode
  contact : ContactState
  reclose : Timer
  sections : SectionUnit
  iBatMax : Nat
  batteryAvailable : Bool

/-- What the laws of the allotment see of a state. -/
def State.allotView (s : State) : AllotView :=
  ⟨s.allot.record, s.router.mode, s.contact.contact, s.allot.reclose, s.sections, s.allot.battery.iBatMax,
    s.allot.batteryAvailable⟩

/-- The record once a limit change has been taken (R90). -/
def Record.fitted (r : Record) (l : Limits) : Record := if r.limitLowers l then r.fitLimits l else r

/-- The record once I_bat_max has been set (R100). -/
def Record.fittedBattery (r : Record) (iBatMax : Nat) : Record :=
  if iBatMax < r.bBat then r.fitBattery iBatMax else r

/-- A condition kept by every way in which the commands change the record in force and what its laws compare it with. -/
structure AllotInvariant (P : AllotView → Prop) : Prop where
  /-- The line is lost and the record cut at once (R32, R86). -/
  cut : ∀ {v : AllotView}, P v → ∀ c, v.contact = .contact →
    P { v with contact := c, record := v.record.cutNow, reclose := .stopped }
  /-- The contact state changes without the line, or the line returns (R32, R91). -/
  offLine : ∀ {v : AllotView}, P v → ∀ c x, v.contact ≠ .contact → P { v with contact := c, reclose := x }
  /-- The reclose timer runs on or stops (R91). -/
  reclose : ∀ {v : AllotView}, P v → ∀ x, (x.isRunning = true → v.reclose.isRunning = true) → P { v with reclose := x }
  overvoltage : ∀ {v : AllotView}, P v → P { v with record := v.record.overvoltageCut }
  modeCut : ∀ {v : AllotView}, P v → ∀ m, P { v with mode := m, record := v.record.modeCut m }
  run : ∀ {v : AllotView}, P v → P { v with mode := .run }
  /-- The section unit changes and hands its limits on (R57, R90). -/
  limits : ∀ {v : AllotView}, P v → ∀ u : SectionUnit, (v.sections.Orderly → u.Orderly) →
    P { v with sections := u, record := v.record.fitted u.limits }
  /-- The section unit changes and its limits in use stay. -/
  sections : ∀ {v : AllotView}, P v → ∀ u : SectionUnit,
    (v.sections.Orderly → u.Orderly ∧ u.limits = v.sections.limits) → P { v with sections := u }
  batteryLimit : ∀ {v : AllotView}, P v → ∀ i, P { v with iBatMax := i, record := v.record.fittedBattery i }
  isolated : ∀ {v : AllotView}, P v → P { v with batteryAvailable := false, record := v.record.batteryCut }
  available : ∀ {v : AllotView}, P v → P { v with batteryAvailable := true }
  /-- A frame expiry installs a computed record (R73). -/
  frame : ∀ {v : AllotView}, P v → ∀ (u : AllotmentUnit) (i : FrameInputs), u.reclose = v.reclose →
    u.battery.iBatMax = v.iBatMax → u.batteryAvailable = v.batteryAvailable → i.mode = v.mode →
    i.contact = v.contact → i.limits = v.sections.limits → P { v with record := u.compute i }
  /-- Start-up installs the reset record (R95, R167). -/
  restart : ∀ (m : Mode) (u : SectionUnit) (iBatMax : Nat), u.Orderly →
    P ⟨.afterReset m, m, .offWire, .stopped, u, iBatMax, false⟩

/-- Of an amount that is to be taken from a share, as much as the share has: the share is lowered from `before` to `after`
and `rest` is left to take from the shares that follow. -/
def Drawn (before after amount rest : Nat) : Prop :=
  after ≤ before ∧ amount + after = before + rest ∧ (rest = 0 ∨ after = 0)

theorem drawn_min (share amount : Nat) :
    Drawn share (share - min share amount) amount (amount - min share amount) := by
  unfold Drawn
  omega

section
variable {before after amount rest before' after' rest' : Nat} (h : Drawn before after amount rest)
include h

/-- Two shares drawn one after the other are drawn as their sum. -/
theorem Drawn.add (h' : Drawn before' after' rest rest') : Drawn (before + before') (after + after') amount rest' := by
  unfold Drawn at *
  omega

theorem Drawn.pos_of_lowered (lowered : after < before) : 0 < amount := by
  unfold Drawn at h
  omega

/-- Something is left to draw only where the share is used up. -/
theorem Drawn.used_up (left : 0 < rest) : after = 0 ∧ 0 < amount := by
  unfold Drawn at h
  omega

end

/-! ## The sums of a record (R80, R82, R105) -/

/-- What is left of a pool after five shares, the two of free comfort taken as one. -/
theorem pool_left (l a b c d e : Nat) : l - a - b - c - d - e = l - a - b - d - (c + e) := by
  simp only [Nat.sub_sub]
  congr 1
  omega

/-- The seven steps of the walk over the two pools (R80). -/
theorem walkRun_shares (bLine bBat : Nat) (d : DemandTotals) (rCom rt : Nat) (boost : Bool) (charge : Nat) :
    let w := walkRun bLine bBat d rCom rt boost charge
    w.essLine = min d.dEss bLine ∧ w.essBat = min (d.dEss - w.essLine) bBat ∧
      w.cprot = min d.dCprot (bLine - w.essLine) ∧
      w.cres = min (min rCom d.dCfree) (bLine - w.essLine - w.cprot) ∧
      w.trLine = min rt (bLine - w.essLine - w.cprot - w.cres) ∧
      w.trBat = (if boost then min (rt - w.trLine) (bBat - w.essBat) else 0) ∧
      w.cfree = w.cres + min (d.dCfree - w.cres) (bLine - w.essLine - w.cprot - w.cres - w.trLine) ∧
      w.ch = min charge (bLine - w.essLine - w.cprot - w.trLine - w.cfree) ∧
      w.line = bLine - w.essLine - w.cprot - w.trLine - w.cfree - w.ch ∧ w.bat = bBat - w.essBat - w.trBat :=
  ⟨rfl, rfl, rfl, rfl, rfl, rfl, rfl, congrArg (min charge) (pool_left _ _ _ _ _ _),
    congrArg₂ Nat.sub (pool_left _ _ _ _ _ _) rfl, rfl⟩

/-- The walk of RUN hands out the two budgets and leaves the rest as spare (R80). -/
theorem walkRun_sums (bLine bBat : Nat) (d : DemandTotals) (rCom rt : Nat) (boost : Bool) (charge : Nat) :
    let w := walkRun bLine bBat d rCom rt boost charge
    w.cres ≤ w.cfree ∧ w.essLine + w.cprot + w.cfree + w.ch + w.trLine + w.line = bLine ∧
      w.essBat + w.trBat + w.bat = bBat := by
  have shares := walkRun_shares bLine bBat d rCom rt boost charge
  dsimp only at shares ⊢
  generalize walkRun bLine bBat d rCom rt boost charge = w at shares ⊢
  obtain ⟨essLine, essBat, cprot, cres, trLine, trBat, cfree, ch, line, bat⟩ := shares
  have granted {share x pool : Nat} (h : share = min x pool) : share ≤ pool := h.le.trans (min_le_right x pool)
  replace trBat : w.trBat ≤ bBat - w.essBat := by
    split at trBat
    · exact granted trBat
    · exact trBat.le.trans (Nat.zero_le _)
  obtain ⟨more, cfree, rest⟩ : ∃ more, w.cfree = w.cres + more ∧
      more ≤ bLine - w.essLine - w.cprot - w.cres - w.trLine := ⟨_, cfree, min_le_right _ _⟩
  replace essLine := granted essLine
  replace essBat := granted essBat
  replace cprot := granted cprot
  replace cres := granted cres
  replace trLine := granted trLine
  replace ch := granted ch
  exact ⟨by omega, by omega, by omega⟩

/-- The walk of SETUP and HALT hands out the essential share alone (R81). -/
theorem walkReduced_sums (bLine bBat : Nat) (d : DemandTotals) :
    let w := walkReduced bLine bBat d
    w.cprot = 0 ∧ w.cres = 0 ∧ w.cfree = 0 ∧ w.ch = 0 ∧ w.trLine = 0 ∧ w.trBat = 0 ∧ w.essLine + w.line = bLine ∧
      w.essBat + w.bat = bBat := by
  simp only [walkReduced, true_and]
  omega

theorem AllotmentUnit.compute_sums (u : AllotmentUnit) (i : FrameInputs) : (u.compute i).Sums := by
  simp only [AllotmentUnit.compute, Record.Sums, Record.lineDraw, Record.auxShares, and_true]
  split
  · exact walkRun_sums _ _ _ _ _ _ _
  · obtain ⟨cprot, cres, cfree, ch, trLine, trBat, line, bat⟩ := walkReduced_sums
      (if lineAvailable i.contact u.reclose = true then scaled i.limits.iFeed (u.factors i.means).kV else 0)
      (if u.batteryAvailable = true then scaled u.battery.iBatMax (u.factors i.means).kB else 0) i.totals
    simp only [cprot, cres, cfree, ch, trLine, trBat]
    omega

section
variable {r : Record} (h : r.Sums)
include h

omit h in
/-- A cut makes up the sums anew (R86). -/
theorem Record.sums_cutNow : r.cutNow.Sums := by
  simp only [Record.Sums, Record.cutNow, Record.lineDraw, Record.auxShares, true_and]
  omega

theorem Record.Sums.overvoltageCut : r.overvoltageCut.Sums := by
  obtain ⟨res, line, bat, aux, -⟩ := h
  refine ⟨res, line, bat, aux, ?_⟩
  simp [Record.overvoltageCut]

theorem Record.Sums.modeCut (m : Mode) : (r.modeCut m).Sums := by
  obtain ⟨-, line, bat, -, -⟩ := h
  simp only [Record.Sums, Record.modeCut, Record.lineDraw, Record.auxShares] at line ⊢
  omega

omit h in
/-- What a feeder limit below the line budget takes: the line draw above it, share by share in the reverse of the walk's
order (R90). -/
theorem Record.fitFeeder_lower (iFeed : Nat) (reserve : r.aCres ≤ r.aCfree) (lower : iFeed < r.bLine) :
    let q := r.fitFeeder iFeed
    ∃ x1 x2 x3 x4 x5 x6, Drawn r.aCh q.aCh (r.lineDraw - iFeed) x1 ∧
      Drawn (r.aCfree - r.aCres) (q.aCfree - q.aCres) x1 x2 ∧ Drawn r.aTrLine q.aTrLine x2 x3 ∧
      Drawn r.aCres q.aCres x3 x4 ∧ Drawn r.aCprot q.aCprot x4 x5 ∧ Drawn r.aEssLine q.aEssLine x5 x6 ∧
      q.aCres ≤ q.aCfree ∧ q.bLine = iFeed ∧ q.hLine = iFeed - q.lineDraw := by
  simp only [Record.fitFeeder, if_pos lower]
  have free (f c x m : Nat) (h : c ≤ f) : f - min (f - c) x - min c m - (c - min c m) = f - c - min (f - c) x := by
    omega
  have kept (f c x m : Nat) (h : c ≤ f) : c - min c m ≤ f - min (f - c) x - min c m := by
    omega
  refine ⟨_, _, _, _, _, _, drawn_min _ _, ?_, drawn_min _ _, drawn_min _ _, drawn_min _ _, drawn_min _ _,
    kept _ _ _ _ reserve, trivial, rfl⟩
  rw [free _ _ _ _ reserve]
  exact drawn_min _ _

omit h in
/-- The line draw above a lower feeder limit is taken, and no more (R90). -/
theorem Record.fitFeeder_draw (iFeed : Nat) (reserve : r.aCres ≤ r.aCfree) (lower : iFeed < r.bLine) :
    (r.fitFeeder iFeed).lineDraw = min r.lineDraw iFeed := by
  obtain ⟨x1, x2, x3, x4, x5, x6, ch, free, tr, res, prot, ess, kept, -, -⟩ := r.fitFeeder_lower iFeed reserve lower
  have total := ch.add (free.add (tr.add (res.add (prot.add ess))))
  have before : r.aCh + (r.aCfree - r.aCres + (r.aTrLine + (r.aCres + (r.aCprot + r.aEssLine)))) = r.lineDraw := by
    simp only [Record.lineDraw]
    omega
  have after : (r.fitFeeder iFeed).aCh + ((r.fitFeeder iFeed).aCfree - (r.fitFeeder iFeed).aCres +
      ((r.fitFeeder iFeed).aTrLine + ((r.fitFeeder iFeed).aCres +
        ((r.fitFeeder iFeed).aCprot + (r.fitFeeder iFeed).aEssLine)))) = (r.fitFeeder iFeed).lineDraw := by
    simp only [Record.lineDraw]
    omega
  rw [before, after] at total
  obtain ⟨-, amount, rest⟩ := total
  omega

omit h in
theorem Record.fitFeeder_same (iFeed : Nat) (same : r.bLine ≤ iFeed) : r.fitFeeder iFeed = r :=
  if_neg same.not_gt

/-- Fitted to a feeder limit the line shares and the spare make up the line budget again (R90). -/
theorem Record.Sums.fitFeeder (iFeed : Nat) :
    (r.fitFeeder iFeed).aCres ≤ (r.fitFeeder iFeed).aCfree ∧
      (r.fitFeeder iFeed).lineDraw + (r.fitFeeder iFeed).hLine = (r.fitFeeder iFeed).bLine := by
  obtain ⟨reserve, line, -, -, -⟩ := h
  by_cases lower : iFeed < r.bLine
  · obtain ⟨x1, x2, x3, x4, x5, x6, -, -, -, -, -, -, kept, budget, spare⟩ :=
      r.fitFeeder_lower iFeed reserve lower
    have draw : (r.fitFeeder iFeed).lineDraw ≤ iFeed :=
      (r.fitFeeder_draw iFeed reserve lower).trans_le (min_le_right _ _)
    exact ⟨kept, by rw [spare, budget, Nat.add_sub_cancel' draw]⟩
  · rw [r.fitFeeder_same iFeed (not_lt.1 lower)]
    exact ⟨reserve, line⟩

omit h in
/-- A lower feeder limit touches the line's side of a record alone (R90). -/
theorem Record.fitFeeder_battery (iFeed : Nat) : (r.fitFeeder iFeed).aEssBat = r.aEssBat ∧
    (r.fitFeeder iFeed).aTrBat = r.aTrBat ∧ (r.fitFeeder iFeed).hBat = r.hBat ∧ (r.fitFeeder iFeed).bBat = r.bBat ∧
    (r.fitFeeder iFeed).aRgLine = r.aRgLine ∧ (r.fitFeeder iFeed).aRgBat = r.aRgBat := by
  simp only [Record.fitFeeder]
  split <;> exact ⟨rfl, rfl, rfl, rfl, rfl, rfl⟩

theorem Record.Sums.fitLimits (l : Limits) : (r.fitLimits l).Sums := by
  obtain ⟨res, line⟩ := h.fitFeeder l.iFeed
  obtain ⟨ess, tr, spare, budget, -, -⟩ := r.fitFeeder_battery l.iFeed
  obtain ⟨-, -, bat, -, -⟩ := h
  refine ⟨res, line, ?_, rfl, rfl⟩
  simp only [Record.fitLimits, Record.withCeiling, ess, tr, spare, budget, bat]

theorem Record.Sums.batteryCut : r.batteryCut.Sums := by
  obtain ⟨res, line, -, -, -⟩ := h
  refine ⟨res, ?_, rfl, ?_, rfl⟩
  · simp only [Record.batteryCut, Record.withCeiling, Record.lineDraw] at line ⊢
    omega
  · simp only [Record.batteryCut, Record.withCeiling, Record.auxShares]
    omega

theorem Record.Sums.fitBattery (i : Nat) : (r.fitBattery i).Sums := by
  obtain ⟨res, line, bat, aux, ceiling⟩ := h
  simp only [Record.fitBattery]
  split
  · refine ⟨res, line, ?_, rfl, rfl⟩
    simp only [Record.withCeiling]
    omega
  · refine ⟨res, line, ?_, ?_, ceiling⟩
    · dsimp only
      omega
    · simp only [Record.auxShares] at aux ⊢
      omega

theorem Record.Sums.fitted (l : Limits) : (r.fitted l).Sums := by
  simp only [Record.fitted]
  split
  · exact h.fitLimits l
  · exact h

theorem Record.Sums.fittedBattery (i : Nat) : (r.fittedBattery i).Sums := by
  simp only [Record.fittedBattery]
  split
  · exact h.fitBattery i
  · exact h

end

theorem Record.sums_afterReset (m : Mode) : (Record.afterReset m).Sums := by
  simp [Record.Sums, Record.afterReset, Record.lineDraw, Record.auxShares]

theorem sums_invariant : AllotInvariant fun v => v.record.Sums where
  cut _ _ _ := Record.sums_cutNow
  offLine h _ _ _ := h
  reclose h _ _ := h
  overvoltage h := h.overvoltageCut
  modeCut h m := h.modeCut m
  run h := h
  limits h _ _ := h.fitted _
  sections h _ _ := h
  batteryLimit h i := h.fittedBattery i
  isolated h := h.batteryCut
  available h := h
  frame _ u i _ _ _ _ _ _ := u.compute_sums i
  restart m _ _ _ := Record.sums_afterReset m

end Sys2Proof.Machine

namespace Sys2Proof.Machine

/-! ## What each modification takes from the line (R85 to R90, R98, R100) -/

section
variable (r : Record) (reserve : r.aCres ≤ r.aCfree)
include reserve

/-- A lower feeder limit raises no line share (R90). -/
theorem Record.fitFeeder_le (iFeed : Nat) :
    (r.fitFeeder iFeed).aEssLine ≤ r.aEssLine ∧ (r.fitFeeder iFeed).aCprot ≤ r.aCprot ∧
      (r.fitFeeder iFeed).aCres ≤ r.aCres ∧ (r.fitFeeder iFeed).aCfree ≤ r.aCfree ∧
      (r.fitFeeder iFeed).aCh ≤ r.aCh ∧ (r.fitFeeder iFeed).aTrLine ≤ r.aTrLine := by
  by_cases lower : iFeed < r.bLine
  · obtain ⟨x1, x2, x3, x4, x5, x6, ⟨ch, -⟩, ⟨free, -⟩, ⟨tr, -⟩, ⟨res, -⟩, ⟨prot, -⟩, ⟨ess, -⟩, kept, -⟩ :=
      r.fitFeeder_lower iFeed reserve lower
    exact ⟨ess, prot, res, by omega, ch, tr⟩
  · rw [r.fitFeeder_same iFeed (not_lt.1 lower)]
    simp

/-- A limit change raises no line share, that of regeneration included (R90). -/
theorem Record.fitLimits_le (l : Limits) :
    (r.fitLimits l).aEssLine ≤ r.aEssLine ∧ (r.fitLimits l).aCprot ≤ r.aCprot ∧ (r.fitLimits l).aCres ≤ r.aCres ∧
      (r.fitLimits l).aCfree ≤ r.aCfree ∧ (r.fitLimits l).aCh ≤ r.aCh ∧ (r.fitLimits l).aTrLine ≤ r.aTrLine ∧
      (r.fitLimits l).aRgLine ≤ r.aRgLine := by
  obtain ⟨ess, prot, res, free, ch, tr⟩ := r.fitFeeder_le reserve l.iFeed
  obtain ⟨-, -, -, -, same, -⟩ := r.fitFeeder_battery l.iFeed
  refine ⟨ess, prot, res, free, ch, tr, ?_⟩
  simp only [Record.fitLimits, Record.withCeiling, same]
  split <;> omega

end

/-- The line budget fits a feeder limit (R90). -/
theorem Record.fitFeeder_bLine (r : Record) (iFeed : Nat) : (r.fitFeeder iFeed).bLine = min r.bLine iFeed := by
  simp only [Record.fitFeeder]
  split
  · next lower => exact (min_eq_right lower.le).symm
  · next same => exact (min_eq_left (not_lt.1 same)).symm

/-- The lowering of I_bat_max leaves the line's side of a record (R100). -/
theorem Record.fitBattery_line (r : Record) (i : Nat) :
    (r.fitBattery i).aEssLine = r.aEssLine ∧ (r.fitBattery i).aCprot = r.aCprot ∧ (r.fitBattery i).aCres = r.aCres ∧
      (r.fitBattery i).aCfree = r.aCfree ∧ (r.fitBattery i).aCh = r.aCh ∧ (r.fitBattery i).aTrLine = r.aTrLine ∧
      (r.fitBattery i).aRgLine = r.aRgLine ∧ (r.fitBattery i).bLine = r.bLine ∧ (r.fitBattery i).hLine = r.hLine := by
  simp only [Record.fitBattery]
  split <;> exact ⟨rfl, rfl, rfl, rfl, rfl, rfl, rfl, rfl, rfl⟩

/-! ## The law on the line (R85) -/

/-- The line's side of a record as the law on the line has it: the line shares of draw fit the line budget, and the comfort
reserve lies within the free comfort. -/
structure Record.FitsLine (r : Record) : Prop where
  reserve : r.aCres ≤ r.aCfree
  draw : r.lineDraw ≤ r.bLine

/-- A record that has no line share of draw above another's, and no more line budget than a limit that its draw fits. -/
structure Record.LowersLine (q r : Record) : Prop where
  ess : q.aEssLine ≤ r.aEssLine
  prot : q.aCprot ≤ r.aCprot
  res : q.aCres ≤ r.aCres
  free : q.aCfree ≤ r.aCfree
  ch : q.aCh ≤ r.aCh
  tr : q.aTrLine ≤ r.aTrLine
  rg : q.aRgLine ≤ r.aRgLine
  budget : q.bLine ≤ r.bLine

/-- What is not granted stays so where no line share is raised. -/
theorem Record.LowersLine.noneButEssential {q r : Record} (h : q.LowersLine r) (granted : r.noneButEssential) :
    q.noneButEssential := by
  obtain ⟨prot, res, free, ch, tr, rg⟩ := granted
  exact ⟨Nat.eq_zero_of_le_zero (prot ▸ h.prot), Nat.eq_zero_of_le_zero (res ▸ h.res),
    Nat.eq_zero_of_le_zero (free ▸ h.free), Nat.eq_zero_of_le_zero (ch ▸ h.ch), Nat.eq_zero_of_le_zero (tr ▸ h.tr),
    Nat.eq_zero_of_le_zero (rg ▸ h.rg)⟩

/-- What `State.LineLaw` says, of the view, with the section law that it is given with (R56, R85). -/
structure AllotView.Line (v : AllotView) : Prop where
  orderly : v.sections.Orderly
  fits : v.record.FitsLine
  feeder : v.record.bLine ≤ v.sections.limits.iFeed
  essential : v.mode ≠ .run → v.record.noneButEssential
  offLine : v.contact ≠ .contact ∨ v.reclose.isRunning = true → v.record.noneButEssential ∧ v.record.aEssLine = 0

theorem State.lineLaw_iff (s : State) (orderly : s.sections.Orderly) : s.LineLaw ↔ s.allotView.Line :=
  ⟨fun ⟨a, b, c, d, e⟩ => ⟨orderly, ⟨a, b⟩, c, d, e⟩, fun ⟨_, ⟨a, b⟩, c, d, e⟩ => ⟨a, b, c, d, e⟩⟩

/-- A modification that raises no line share and keeps the draw within the budget keeps the law. -/
theorem AllotView.Line.modified {v : AllotView} (h : v.Line) {q : Record} (lowers : q.LowersLine v.record)
    (fits : q.FitsLine) : AllotView.Line { v with record := q } where
  orderly := h.orderly
  fits := fits
  feeder := lowers.budget.trans h.feeder
  essential m := lowers.noneButEssential (h.essential m)
  offLine o :=
    have ⟨granted, ess⟩ := h.offLine o
    ⟨lowers.noneButEssential granted, Nat.eq_zero_of_le_zero (ess ▸ lowers.ess)⟩

theorem Record.modeCut_noneButEssential (r : Record) (m : Mode) : (r.modeCut m).noneButEssential :=
  ⟨rfl, rfl, rfl, rfl, rfl, rfl⟩

theorem Record.cutNow_noneButEssential (r : Record) : r.cutNow.noneButEssential := ⟨rfl, rfl, rfl, rfl, rfl, rfl⟩

theorem Record.modeCut_lowersLine (r : Record) (m : Mode) : (r.modeCut m).LowersLine r :=
  ⟨le_rfl, Nat.zero_le _, Nat.zero_le _, Nat.zero_le _, Nat.zero_le _, Nat.zero_le _, Nat.zero_le _, le_rfl⟩

theorem Record.FitsLine.modeCut {r : Record} (h : r.FitsLine) (m : Mode) : (r.modeCut m).FitsLine := by
  refine ⟨le_rfl, ?_⟩
  have draw := h.draw
  simp only [Record.modeCut, Record.lineDraw] at draw ⊢
  omega

theorem Record.fitted_lowersLine {r : Record} (h : r.FitsLine) (l : Limits) : (r.fitted l).LowersLine r := by
  simp only [Record.fitted]
  split
  · obtain ⟨ess, prot, res, free, ch, tr, rg⟩ := r.fitLimits_le h.reserve l
    exact ⟨ess, prot, res, free, ch, tr, rg, (r.fitFeeder_bLine l.iFeed).trans_le (min_le_left _ _)⟩
  · exact ⟨le_rfl, le_rfl, le_rfl, le_rfl, le_rfl, le_rfl, le_rfl, le_rfl⟩

/-- Fitted to limits the line budget is within the feeder limit (R90). -/
theorem Record.fitted_bLine_le (r : Record) (l : Limits) : (r.fitted l).bLine ≤ l.iFeed := by
  simp only [Record.fitted]
  split
  · exact (r.fitFeeder_bLine l.iFeed).trans_le (min_le_right _ _)
  · next same =>
    simp only [Record.limitLowers, Bool.or_eq_true, decide_eq_true_eq, not_or] at same
    exact not_lt.1 same.1

theorem Record.FitsLine.fitted {r : Record} (h : r.FitsLine) (l : Limits) : (r.fitted l).FitsLine := by
  simp only [Record.fitted]
  split
  · by_cases lower : l.iFeed < r.bLine
    · obtain ⟨x1, x2, x3, x4, x5, x6, -, -, -, -, -, -, kept, budget, -⟩ :=
        r.fitFeeder_lower l.iFeed h.reserve lower
      refine ⟨kept, ?_⟩
      show (r.fitFeeder l.iFeed).lineDraw ≤ (r.fitFeeder l.iFeed).bLine
      exact (r.fitFeeder_draw l.iFeed h.reserve lower).trans_le ((min_le_right _ _).trans_eq budget.symm)
    · have same := r.fitFeeder_same l.iFeed (not_lt.1 lower)
      refine ⟨?_, ?_⟩
      · show (r.fitFeeder l.iFeed).aCres ≤ (r.fitFeeder l.iFeed).aCfree
        rw [same]
        exact h.reserve
      · show (r.fitFeeder l.iFeed).lineDraw ≤ (r.fitFeeder l.iFeed).bLine
        rw [same]
        exact h.draw
  · exact h

theorem Record.batteryCut_lowersLine (r : Record) : r.batteryCut.LowersLine r :=
  ⟨le_rfl, le_rfl, le_rfl, le_rfl, Nat.zero_le _, le_rfl, le_rfl, le_rfl⟩

theorem Record.FitsLine.batteryCut {r : Record} (h : r.FitsLine) : r.batteryCut.FitsLine := by
  refine ⟨h.reserve, ?_⟩
  have draw := h.draw
  simp only [Record.batteryCut, Record.withCeiling, Record.lineDraw] at draw ⊢
  omega

theorem Record.fittedBattery_line (r : Record) (i : Nat) :
    (r.fittedBattery i).LowersLine r ∧ (r.FitsLine → (r.fittedBattery i).FitsLine) := by
  simp only [Record.fittedBattery]
  split
  · obtain ⟨ess, prot, res, free, ch, tr, rg, budget, -⟩ := r.fitBattery_line i
    refine ⟨⟨ess.le, prot.le, res.le, free.le, ch.le, tr.le, rg.le, budget.le⟩, fun h => ⟨?_, ?_⟩⟩
    · rw [res, free]
      exact h.reserve
    · simpa only [Record.lineDraw, ess, prot, free, ch, tr, budget] using h.draw
  · exact ⟨⟨le_rfl, le_rfl, le_rfl, le_rfl, le_rfl, le_rfl, le_rfl, le_rfl⟩, id⟩

/-- The line is available in CONTACT with the reclose timer not running (R74). -/
theorem lineAvailable_iff (c : ContactState) (reclose : Timer) :
    lineAvailable c reclose = true ↔ c = .contact ∧ reclose.isRunning = false := by
  simp [lineAvailable]

/-- The line's side of a computed record: its budget fits the feeder limit, outside RUN only the essential share is granted,
and without the line none is (R76, R81, R105). -/
theorem AllotmentUnit.compute_line (u : AllotmentUnit) (i : FrameInputs) :
    (u.compute i).bLine ≤ i.limits.iFeed ∧ (i.mode ≠ .run → (u.compute i).noneButEssential) ∧
      (lineAvailable i.contact u.reclose = false → (u.compute i).noneButEssential ∧ (u.compute i).aEssLine = 0) := by
  refine ⟨?_, fun other => ?_, fun unavailable => ?_⟩
  · simp only [AllotmentUnit.compute]
    split
    · exact scaled_le _ (risingFactor_le _ _ _)
    · exact Nat.zero_le _
  · simp [AllotmentUnit.compute, other, walkReduced]
  · obtain ⟨reserve, line, -⟩ := u.compute_sums i
    have budget : (u.compute i).bLine = 0 := by simp [AllotmentUnit.compute, unavailable]
    have regen : (u.compute i).aRgLine = 0 := by simp [AllotmentUnit.compute, unavailable]
    simp only [Record.lineDraw] at line
    simp only [Record.noneButEssential]
    omega

theorem line_invariant : AllotInvariant AllotView.Line where
  cut h c _ := ⟨h.orderly, ⟨le_rfl, le_rfl⟩, Nat.zero_le _, fun _ => Record.cutNow_noneButEssential _,
    fun _ => ⟨Record.cutNow_noneButEssential _, rfl⟩⟩
  offLine h c x off := ⟨h.orderly, h.fits, h.feeder, h.essential, fun _ => h.offLine (.inl off)⟩
  reclose h x runs := ⟨h.orderly, h.fits, h.feeder, h.essential, fun o => h.offLine (o.imp id runs)⟩
  overvoltage h := h.modified
    ⟨le_rfl, le_rfl, le_rfl, le_rfl, le_rfl, le_rfl, Nat.zero_le _, le_rfl⟩ ⟨h.fits.reserve, h.fits.draw⟩
  modeCut {v} h m :=
    let cut := h.modified (v.record.modeCut_lowersLine m) (h.fits.modeCut m)
    ⟨cut.orderly, cut.fits, cut.feeder, fun _ => v.record.modeCut_noneButEssential m, cut.offLine⟩
  run h := ⟨h.orderly, h.fits, h.feeder, fun other => absurd rfl other, h.offLine⟩
  limits {v} h u orderly :=
    let fitted := h.modified (Record.fitted_lowersLine h.fits u.limits) (h.fits.fitted u.limits)
    ⟨orderly h.orderly, fitted.fits, v.record.fitted_bLine_le u.limits, fitted.essential, fitted.offLine⟩
  sections h u kept :=
    have ⟨orderly, same⟩ := kept h.orderly
    ⟨orderly, h.fits, same ▸ h.feeder, h.essential, h.offLine⟩
  batteryLimit {v} h i :=
    let fitted := h.modified (v.record.fittedBattery_line i).1 ((v.record.fittedBattery_line i).2 h.fits)
    ⟨fitted.orderly, fitted.fits, fitted.feeder, fitted.essential, fitted.offLine⟩
  isolated {v} h :=
    let cut := h.modified v.record.batteryCut_lowersLine h.fits.batteryCut
    ⟨cut.orderly, cut.fits, cut.feeder, cut.essential, cut.offLine⟩
  available h := ⟨h.orderly, h.fits, h.feeder, h.essential, h.offLine⟩
  frame {v} h u i reclose _ _ mode contact limits := by
    obtain ⟨reserve, line, -⟩ := u.compute_sums i
    obtain ⟨feeder, essential, offLine⟩ := u.compute_line i
    refine ⟨h.orderly, ⟨reserve, (Nat.le_add_right _ _).trans_eq line⟩, limits ▸ feeder,
      fun other => essential (mode ▸ other), fun off => offLine ?_⟩
    rw [Bool.eq_false_iff, ne_eq, lineAvailable_iff, contact, reclose]
    simpa [or_iff_not_imp_left] using off
  restart m u _ orderly := ⟨orderly, ⟨le_rfl, le_rfl⟩, Nat.zero_le _, fun _ => ⟨rfl, rfl, rfl, rfl, rfl, rfl⟩,
    fun _ => ⟨⟨rfl, rfl, rfl, rfl, rfl, rfl⟩, rfl⟩⟩

/-! ## The law on the battery (R100) -/

/-- What `State.BatteryLaw` says, of the view. -/
structure AllotView.Battery (v : AllotView) : Prop where
  draw : v.record.aEssBat + v.record.aTrBat ≤ v.record.bBat
  limit : v.record.bBat ≤ v.iBatMax
  isolated : v.batteryAvailable = false → v.record.bBat = 0

theorem State.batteryLaw_iff (s : State) : s.BatteryLaw ↔ s.allotView.Battery :=
  ⟨fun ⟨a, b, c⟩ => ⟨a, b, c⟩, fun ⟨a, b, c⟩ => ⟨a, b, c⟩⟩

/-- A modification that leaves the battery budget and fits the battery's shares to it keeps the law. -/
theorem AllotView.Battery.modified {v : AllotView} (h : v.Battery) {q : Record} (budget : q.bBat = v.record.bBat)
    (draw : q.aEssBat + q.aTrBat ≤ q.bBat) : AllotView.Battery { v with record := q } :=
  ⟨draw, budget ▸ h.limit, fun o => budget.trans (h.isolated o)⟩

/-- A limit change leaves the battery's side of a record (R90). -/
theorem Record.fitted_battery (r : Record) (l : Limits) : (r.fitted l).bBat = r.bBat ∧
    (r.fitted l).aEssBat = r.aEssBat ∧ (r.fitted l).aTrBat = r.aTrBat := by
  simp only [Record.fitted]
  split
  · obtain ⟨ess, tr, -, budget, -⟩ := r.fitFeeder_battery l.iFeed
    exact ⟨budget, ess, tr⟩
  · exact ⟨rfl, rfl, rfl⟩

/-- Fitted to I_bat_max the battery budget is within it, and the battery's shares are within the budget (R100). -/
theorem Record.fittedBattery_bat (r : Record) (i : Nat) (draw : r.aEssBat + r.aTrBat ≤ r.bBat) :
    (r.fittedBattery i).bBat = min r.bBat i ∧
      (r.fittedBattery i).aEssBat + (r.fittedBattery i).aTrBat ≤ (r.fittedBattery i).bBat := by
  simp only [Record.fittedBattery, Record.fitBattery]
  split
  · split <;> simp only [Record.withCeiling] <;> omega
  · omega

/-- The battery's side of a computed record (R77, R80). -/
theorem AllotmentUnit.compute_battery (u : AllotmentUnit) (i : FrameInputs) :
    (u.compute i).aEssBat + (u.compute i).aTrBat ≤ (u.compute i).bBat ∧ (u.compute i).bBat ≤ u.battery.iBatMax ∧
      (u.batteryAvailable = false → (u.compute i).bBat = 0) := by
  obtain ⟨-, -, bat, -⟩ := u.compute_sums i
  refine ⟨by omega, ?_, fun isolated => by simp [AllotmentUnit.compute, isolated]⟩
  simp only [AllotmentUnit.compute]
  split
  · exact scaled_le _ (risingFactor_le _ _ _)
  · exact Nat.zero_le _

theorem battery_invariant : AllotInvariant AllotView.Battery where
  cut {v} h c _ := by
    have cut := h.modified (q := v.record.cutNow) rfl (by simp only [Record.cutNow]; omega)
    exact ⟨cut.draw, cut.limit, cut.isolated⟩
  offLine h _ _ _ := ⟨h.draw, h.limit, h.isolated⟩
  reclose h _ _ := ⟨h.draw, h.limit, h.isolated⟩
  overvoltage h := h.modified rfl h.draw
  modeCut {v} h m := by
    have cut := h.modified (q := v.record.modeCut m) rfl ((Nat.le_add_right _ _).trans h.draw)
    exact ⟨cut.draw, cut.limit, cut.isolated⟩
  run h := ⟨h.draw, h.limit, h.isolated⟩
  limits {v} h u _ := by
    obtain ⟨budget, ess, tr⟩ := v.record.fitted_battery u.limits
    have fitted := h.modified budget (by rw [ess, tr, budget]; exact h.draw)
    exact ⟨fitted.draw, fitted.limit, fitted.isolated⟩
  sections h _ _ := ⟨h.draw, h.limit, h.isolated⟩
  batteryLimit {v} h i := by
    obtain ⟨budget, draw⟩ := v.record.fittedBattery_bat i h.draw
    exact ⟨draw, budget.trans_le (min_le_right _ _), fun o => by rw [budget, h.isolated o, Nat.zero_min]⟩
  isolated _ := ⟨le_rfl, Nat.zero_le _, fun _ => rfl⟩
  available h := ⟨h.draw, h.limit, nofun⟩
  frame {v} _ u i _ limit available _ _ _ := by
    obtain ⟨draw, fits, isolated⟩ := u.compute_battery i
    exact ⟨draw, limit ▸ fits, fun o => isolated (available.trans o)⟩
  restart _ _ _ _ := ⟨le_rfl, Nat.zero_le _, fun _ => rfl⟩

end Sys2Proof.Machine

namespace Sys2Proof.Machine

/-! ## What leaves the view of the allotment laws -/

section
variable (s : State)

@[simp] theorem State.queueTo_allotView (dest : PortId → Bool) (n : Notice) :
    (s.queueTo dest n).allotView = s.allotView := rfl
@[simp] theorem State.notify_allotView (n : Notice) : (s.notify n).allotView = s.allotView := rfl
@[simp] theorem State.setPort_allotView (p : PortId) (port : Port) : (s.setPort p port).allotView = s.allotView := rfl
@[simp] theorem State.beginWaiting_allotView : s.beginWaiting.allotView = s.allotView := rfl
@[simp] theorem State.publish_allotView : s.publish.allotView = s.allotView := rfl
@[simp] theorem State.markCut_allotView : s.markCut.allotView = s.allotView := rfl
@[simp] theorem State.hunt_allotView (p : PortId) : (s.hunt p).allotView = s.allotView := rfl
@[simp] theorem State.enterReply_allotView (p : PortId) (r : Reply) : (s.enterReply p r).allotView = s.allotView := rfl
@[simp] theorem State.failFrame_allotView (p : PortId) (f : PortCounts → PortCounts) :
    (s.failFrame p f).allotView = s.allotView := rfl

@[simp] theorem State.setAux_allotView (a : Sequencer) : (s.setAux a).allotView = s.allotView := by
  simp [State.allotView]

@[simp] theorem State.enterAlarm_allotView (k : AlarmKey) (c : Option ConditionClass) (b : ContactState) (n : Nat) :
    (s.enterAlarm k c b n).allotView = s.allotView := by
  simp [State.allotView]

@[simp] theorem State.conditionEnd_allotView (k : AlarmKey) : (s.conditionEnd k).allotView = s.allotView := by
  simp [State.allotView]

@[simp] theorem State.endLineLost_allotView (b a : ContactState) : (s.endLineLost b a).allotView = s.allotView := by
  simp [State.allotView]

@[simp] theorem State.noticeContact_allotView (c : Bool) : (s.noticeContact c).allotView = s.allotView := by
  simp [State.allotView]

@[simp] theorem State.setInhibit_allotView (x : InhibitSource) : (s.setInhibit x).allotView = s.allotView := by
  simp only [State.setInhibit]; split <;> rfl

@[simp] theorem State.answerFrame_allotView (p : PortId) (kind tag : Byte) (code : ReplyCode) :
    (s.answerFrame p kind tag code).allotView = s.allotView := by
  simp only [State.answerFrame]; split <;> rfl

@[simp] theorem State.auxEvent_allotView (i : Slot) (due : AuxRecord → Bool) (f : AuxRecord → Sequencer) :
    (s.auxEvent i due f).allotView = s.allotView := by
  simp only [State.auxEvent]; (repeat' split) <;> simp

@[simp] theorem State.saveCompleted_allotView (agrees : Bool) : (s.saveCompleted agrees).allotView = s.allotView := by
  simp only [State.saveCompleted]; split <;> rfl

@[simp] theorem State.setFilter_allotView (m : MonitorId) (f : MonitorSetting → MonitorSetting) :
    (s.setFilter m f).allotView = s.allotView := by
  simp only [State.setFilter]; split <;> rfl

@[simp] theorem answerPortStatus_allotView (named clear : Byte) :
    (answerPortStatus named clear s).state.allotView = s.allotView := by
  simp only [answerPortStatus]; (repeat' split) <;> rfl

@[simp] theorem answerPoll_allotView (p : PortId) : (answerPoll p s).state.allotView = s.allotView := by
  simp only [answerPoll]; split <;> rfl

@[simp] theorem answerDemand_allotView (mode : Byte) (magnitude : Half) :
    (answerDemand mode magnitude s).state.allotView = s.allotView := by
  simp only [answerDemand]; split <;> rfl

@[simp] theorem State.startAux_allotView (i : Slot) (r : AuxRecord) :
    (s.startAux i r).state.allotView = s.allotView := by
  simp only [State.startAux]
  cases r.state with
  | idle => simp
  | cooldown => dsimp only; split <;> simp
  | shed => dsimp only; (repeat' split) <;> simp
  | _ => rfl

@[simp] theorem State.stopAux_allotView (i : Slot) (r : AuxRecord) : (s.stopAux i r).state.allotView = s.allotView := by
  simp only [State.stopAux]
  cases r.state with
  | cooldown | shed => dsimp only; split <;> simp
  | _ => simp

@[simp] theorem answerAuxStart_allotView (slot : Byte) : (answerAuxStart slot s).state.allotView = s.allotView := by
  simp only [answerAuxStart]; split <;> simp

@[simp] theorem answerAuxStop_allotView (slot : Byte) : (answerAuxStop slot s).state.allotView = s.allotView := by
  simp only [answerAuxStop]; split <;> simp

@[simp] theorem State.writeAux_allotView (i : Slot) (part : AuxConfig) (clamped : Bool) :
    (s.writeAux i part clamped).state.allotView = s.allotView := by
  simp only [State.writeAux]; (repeat' split) <;> simp

@[simp] theorem answerAuxWrite_allotView (slot : Byte) (f : AuxFields) :
    (answerAuxWrite slot f s).state.allotView = s.allotView := by
  simp only [answerAuxWrite]; (repeat' split) <;> simp

@[simp] theorem answerAuxRemove_allotView (slot : Byte) : (answerAuxRemove slot s).state.allotView = s.allotView := by
  simp only [answerAuxRemove]; (repeat' split) <;> simp

@[simp] theorem answerRouteWrite_allotView (kind mask enable : Byte) :
    (answerRouteWrite kind mask enable s).state.allotView = s.allotView := by
  simp only [answerRouteWrite]; (repeat' split) <;> rfl

@[simp] theorem answerAckAlarm_allotView (p : PortId) (n : Half) :
    (answerAckAlarm p n s).state.allotView = s.allotView := by
  simp only [answerAckAlarm]; (repeat' split) <;> rfl

@[simp] theorem answerClearHistory_allotView : (answerClearHistory s).state.allotView = s.allotView := rfl

@[simp] theorem answerSetHistoryPolicy_allotView (policy : Byte) :
    (answerSetHistoryPolicy policy s).state.allotView = s.allotView := by
  simp only [answerSetHistoryPolicy]; (repeat' split) <;> rfl

@[simp] theorem answerClearFault_allotView (kind : Byte) : (answerClearFault kind s).state.allotView = s.allotView := by
  simp only [answerClearFault]; (repeat' split) <;> rfl

@[simp] theorem answerClearFlags_allotView : (answerClearFlags s).state.allotView = s.allotView := rfl

@[simp] theorem answerSave_allotView : (answerSave s).state.allotView = s.allotView := by
  simp only [answerSave]; (repeat' split) <;> rfl

@[simp] theorem answerReset_allotView : (answerReset s).state.allotView = s.allotView := by
  simp only [answerReset]; split <;> simp [State.allotView]

@[simp] theorem answerRaise_allotView : (answerRaise s).state.allotView = s.allotView := by
  simp only [answerRaise]; split <;> rfl

@[simp] theorem answerTractionInhibit_allotView (value : Byte) :
    (answerTractionInhibit value s).state.allotView = s.allotView := by
  simp only [answerTractionInhibit]; (repeat' split) <;> rfl

end

/-! ## The modifications in the view (R86, R88 to R90, R98, R100) -/

section
variable (s : State)

@[simp] theorem State.takeOvervoltageCut_allotView :
    s.takeOvervoltageCut.allotView = { s.allotView with record := s.allot.record.overvoltageCut } := rfl

@[simp] theorem State.takeModeCut_allotView (m : Mode) :
    (s.takeModeCut m).allotView = { s.allotView with record := s.allot.record.modeCut m } := by
  simp [State.takeModeCut, State.shedOnCut]
  rfl

@[simp] theorem State.takeCut_allotView :
    s.takeCut.allotView = { s.allotView with record := s.allot.record.cutNow, reclose := .stopped } := by
  simp [State.takeCut, State.shedOnCut]
  rfl

@[simp] theorem State.takeLimits_allotView (l : Limits) :
    (s.takeLimits l).allotView = { s.allotView with record := s.allot.record.fitted l } := by
  simp only [State.takeLimits, Record.fitted]
  split <;> rfl

@[simp] theorem State.handLimits_allotView :
    s.handLimits.allotView = { s.allotView with record := s.allot.record.fitted s.sections.limits } :=
  s.takeLimits_allotView _

@[simp] theorem State.takeBatteryLimit_allotView (i : Nat) :
    (s.takeBatteryLimit i).allotView = { s.allotView with record := s.allot.record.fittedBattery i } := by
  simp only [State.takeBatteryLimit, Record.fittedBattery]
  split <;> rfl

@[simp] theorem State.takeBatteryCut_allotView :
    s.takeBatteryCut.allotView = { s.allotView with record := s.allot.record.batteryCut } := by
  simp only [State.takeBatteryCut]
  split <;> split <;> rfl

end

/-! ## What keeps a condition of the view: the signals, the router and the hand-over -/

section
variable {P : AllotView → Prop} (h : AllotInvariant P) {s : State} (hs : P s.allotView)
include h hs

/-- The section unit changes and hands its limits on (R57, R90). -/
theorem AllotInvariant.handed (u : SectionUnit) (orderly : s.sections.Orderly → u.Orderly) :
    P ({ s with sections := u } : State).handLimits.allotView := by
  rw [State.handLimits_allotView]
  exact h.limits hs u orderly

theorem AllotInvariant.gapEnded : P s.gapEnded.allotView := by
  simp only [State.gapEnded]
  split
  · next e opened =>
    split
    · exact h.handed hs _ fun orderly => orderly.place (orderly.pending e opened)
    · exact hs
  · exact hs

/-- A change of the expectation alone leaves the limits in use. -/
theorem AllotInvariant.expect (x : Option Expectation)
    (orderly : s.sections.Orderly → ({ s.sections with expectation := x } : SectionUnit).Orderly) :
    P ({ s with sections := { s.sections with expectation := x } } : State).allotView :=
  h.sections hs _ fun o => ⟨orderly o, rfl⟩

theorem AllotInvariant.sectionDrop : P s.sectionDrop.allotView := h.expect hs none fun o => o.drop

theorem AllotInvariant.gapSeen : P s.gapSeen.allotView := by
  simp only [State.gapSeen]
  split
  · next e opened => exact h.expect hs _ fun o => o.expect (e := { e with gapSeen := true }) (o.pending e opened)
  · exact hs

theorem AllotInvariant.sectionSignals (b a : ContactState) : P (s.sectionSignals b a).allotView := by
  simp only [State.sectionSignals]
  split
  · exact hs
  · split
    · exact h.gapSeen hs
    · split
      · exact h.gapEnded hs
      · exact hs
    · exact h.sectionDrop hs

/-- A change of the contact state, together with the cut or the restore that it sends (R32, R86, R91). -/
theorem AllotInvariant.lineSignals (u : ContactUnit) :
    P (({ s with contact := u } : State).lineSignals s.contact.contact u.contact).allotView := by
  simp only [State.lineSignals]
  split
  · next same =>
    have view : ({ s with contact := u } : State).allotView = s.allotView := by simp [State.allotView, same]
    rwa [view]
  · split
    · next contact =>
      rw [State.takeCut_allotView]
      exact h.cut hs u.contact contact
    · next off =>
      split
      · rw [State.allotView, State.takeRestore_allot]
        simpa [State.allotView] using h.offLine hs u.contact _ off
      · exact h.offLine hs u.contact s.allot.reclose off

theorem AllotInvariant.lowerPoles : P s.lowerPoles.allotView := by
  rw [s.lowerPoles_eq _ rfl, State.noticeContact_allotView, State.endLineLost_allotView]
  exact h.sectionSignals (h.lineSignals (s := s.notify (.poleOrder .lower)) hs _) _ _

theorem AllotInvariant.changeMode (m : Mode) (c : ModeCause) : P (s.changeMode m c).allotView := by
  simp only [State.changeMode, State.notify_allotView]
  split
  · next run => exact run ▸ h.run hs
  · rw [State.takeModeCut_allotView]
    exact h.modeCut hs m

theorem AllotInvariant.latchEvent (e : Event) : P (s.latchEvent e).allotView := by
  simp only [State.latchEvent]
  split
  · apply h.changeMode
    exact hs
  · exact hs

theorem AllotInvariant.handleEvent (e : Event) : P (s.handleEvent e).allotView := by
  have latched := h.latchEvent hs e
  simp only [State.handleEvent]
  split
  · next a _ =>
    cases a with
    | lowerPoles => exact h.lowerPoles latched
    | tractionInhibit x => simpa [State.perform] using latched
  · exact latched

omit hs in
theorem AllotInvariant.handleEvents (es : List Event) {s : State} (hs : P s.allotView) :
    P (s.handleEvents es).allotView := by
  simp only [State.handleEvents]
  induction es generalizing s with
  | nil => exact hs
  | cons e es ih => exact ih (h.handleEvent hs e)

omit hs in
theorem AllotInvariant.takeAlarms (b : ContactState) (n : Nat) (xs : List AlarmSignal) {s : State}
    (hs : P s.allotView) : P (xs.foldl (State.takeAlarm b n) s).allotView := by
  induction xs generalizing s with
  | nil => exact hs
  | cons x xs ih =>
    refine ih ?_
    cases x with
    | raised k c => exact h.handleEvent (s := s.enterAlarm k c b n) (by simpa using hs) _
    | ended k => simpa [State.takeAlarm] using hs

/-- A hand-over from the contact state before the event changes the view by its signals, by an overvoltage cut and by what
its events route (R14, R32, R33, R88). -/
theorem AllotInvariant.handOver (u before : ContactUnit) (n : Nat) (x : HandOver)
    (was : before.contact = s.contact.contact) : P (({ s with contact := u } : State).handOver before n x).allotView := by
  have event (t : State) (c : Prop) [Decidable c] (e : Event) (ht : P t.allotView) :
      P (if c then t.handleEvent e else t).allotView := by
    split
    · exact h.handleEvent ht e
    · exact ht
  have cut (t : State) (c : Prop) [Decidable c] (ht : P t.allotView) :
      P (if c then t.takeOvervoltageCut else t).allotView := by
    split
    · exact h.overvoltage ht
    · exact ht
  have signalled := h.lineSignals hs (u.settle s.sections.gapOverride)
  simp only [State.handOver, State.noticeContact_allotView]
  refine event _ _ _ (event _ _ _ (h.takeAlarms _ _ _ ?_))
  rw [State.endLineLost_allotView]
  refine h.takeAlarms _ _ _ (cut _ _ (h.sectionSignals ?_ _ _))
  rw [was]
  exact signalled

/-! ## Sweeps, expiries and frames -/

theorem AllotInvariant.sweep (codes : Vector RawCode 8) : P (s.sweep codes).allotView := by
  have measured := h.handleEvents (faultEvents (s.meas.takeCodes codes))
    (s := { s with meas := s.meas.complete (s.meas.takeCodes codes) }) hs
  rw [s.sweep_eq_handOver]
  exact h.handOver (s := s.sampled codes) measured _ _ _ _ rfl

theorem AllotInvariant.seatExpired (p : Pole) : P (s.seatExpired p).allotView := by
  simp only [State.seatExpired]
  split
  · exact h.handOver hs _ _ _ _ rfl
  · exact hs

theorem AllotInvariant.gapExpired : P s.gapExpired.allotView := by
  simp only [State.gapExpired]
  split
  · exact h.handOver hs _ _ _ _ rfl
  · exact hs

theorem AllotInvariant.loweringExpired : P s.loweringExpired.allotView := by
  simp only [State.loweringExpired]
  split
  · exact h.handOver hs _ _ _ _ rfl
  · exact hs

theorem AllotInvariant.windowExpired : P s.windowExpired.allotView := by
  simp only [State.windowExpired]
  split
  · exact hs
  · next e opened =>
    split
    · exact hs
    · split
      · exact h.expect hs _ fun o => o.expect (e := { e with window := .expired }) (o.pending e opened)
      · exact h.handleEvent (h.handed hs _ fun o => o.place (o.pending e opened)) _

theorem AllotInvariant.testEssential (r : Record) : P (s.testEssential r).allotView := by
  simp only [State.testEssential]
  split
  · split
    · exact hs
    · apply h.handleEvent
      exact hs
  · exact hs

theorem AllotInvariant.takePublication (r : Record) : P (s.takePublication r).allotView := by
  simp only [State.takePublication, State.setAux_allotView]
  exact h.testEssential (by simpa using hs) r

theorem AllotInvariant.stallExpired : P s.stallExpired.allotView := by
  simp only [State.stallExpired]
  split
  · exact hs
  · split
    · exact hs
    · split
      · split
        · exact hs
        · apply h.handleEvent
          exact hs
      · exact hs

end

end Sys2Proof.Machine

namespace Sys2Proof.Machine

/-! ## The end of a frame (R69 to R73, R114, R118) -/

section
variable (u : AllotmentUnit)

/-- The unit at the end of its frame: the accumulators taken, the staged period applied and the timer restarted, the demand
and the draw supervised (R73). -/
def AllotmentUnit.ended (current : Option Nat) : AllotmentUnit :=
  let period := u.stagedTf.getD u.line.tF
  let w := (u.superviseDraw u.acc.means.iL current).1
  { u with
    acc := .empty, stagedTf := none, line := { u.line with tF := period }, frameTimer := .running period
    demand := u.superviseDemand.1.demand
    afterCut := u.cutMark, cutMark := false, overdraw := w.overdraw, warn := w.warn, persist := w.persist }

/-- The events that the supervision of a frame raises, those of the demand first (R115, R119). -/
def AllotmentUnit.endEvents (current : Option Nat) : List Event :=
  u.superviseDemand.2 ++ (u.superviseDraw u.acc.means.iL current).2

/-- The three first steps of R73, the supervision seen on the unit as it stood: it reads nothing of what the steps ahead of
it change. -/
theorem AllotmentUnit.endFrame_eq (current : Option Nat) :
    u.endFrame current = (u.ended current, u.acc.means, u.endEvents current) := by
  let period := u.stagedTf.getD u.line.tF
  let restarted : AllotmentUnit :=
    { u with acc := .empty, stagedTf := none, line := { u.line with tF := period }, frameTimer := .running period }
  have demand : restarted.superviseDemand =
      ({ restarted with demand := u.superviseDemand.1.demand }, u.superviseDemand.2) := by
    cases hd : u.demand with
    | none => simp [AllotmentUnit.superviseDemand, hd, restarted]
    | some d =>
      simp only [AllotmentUnit.superviseDemand, hd, restarted]
      split <;> rfl
  have draw (d : Option DemandRecord) (mean : Int) :
      ({ restarted with demand := d } : AllotmentUnit).superviseDraw mean current =
        ({ restarted with
            demand := d, afterCut := u.cutMark, cutMark := false
            overdraw := (u.superviseDraw mean current).1.overdraw, warn := (u.superviseDraw mean current).1.warn
            persist := (u.superviseDraw mean current).1.persist }, (u.superviseDraw mean current).2) := by
    simp only [AllotmentUnit.superviseDraw, restarted]
    split
    · rfl
    · split <;> rfl
  show (((restarted.superviseDemand).1.superviseDraw u.acc.means.iL current).1, u.acc.means,
    restarted.superviseDemand.2 ++ ((restarted.superviseDemand).1.superviseDraw u.acc.means.iL current).2) = _
  rw [demand, draw]
  rfl

end

/-! ## A frame expiry, stage by stage (R73) -/

section
variable (s : State)

/-- What the computation reads at a frame expiry (R74). -/
def State.frameInputs : FrameInputs :=
  { frame := s.allot.frame + 1, means := s.allot.acc.means, mode := s.router.mode, contact := s.contact.contact
    limits := s.sections.limits, totals := s.aux.totals, overvolt := s.contact.monitors.overvolt.output
    stale := (s.allot.ended s.sections.current).staleFlag }

/-- The record that a frame expiry computes. -/
def State.computed : Record := (s.allot.ended s.sections.current).compute s.frameInputs

/-- The state with the computed record installed (R83). -/
def State.installed : State :=
  { s with allot := { s.allot.ended s.sections.current with
      frame := s.allot.frame + 1, record := s.computed, overvoltRead := s.contact.monitors.overvolt.output
      sag := sagAfter s.allot.sag s.computed } }

/-- The state once the record has been handed to the sequencer and published, and the events of the supervision have been
handled (R73, R83, R140). -/
def State.supervised : State :=
  (s.installed.takePublication s.computed).publish.handleEvents (s.allot.endEvents s.sections.current)

/-- The SAG event of a frame expiry (R84). -/
def State.sagEvent : Event := ⟨.sag, .advisory, .sectionId s.supervised.sections.current⟩

theorem State.expireFrame_eq : s.expireFrame =
    if sagRaised s.allot.sag s.computed then s.supervised.handleEvent s.sagEvent else s.supervised := by
  simp only [State.expireFrame, AllotmentUnit.endFrame_eq]
  rfl

end

/-- A frame expiry changes the view by the record that it installs and by what its events route. -/
theorem AllotInvariant.expireFrame {P : AllotView → Prop} (h : AllotInvariant P) {s : State} (hs : P s.allotView) :
    P s.expireFrame.allotView := by
  have installed : P s.installed.allotView :=
    h.frame hs (s.allot.ended s.sections.current) s.frameInputs rfl rfl rfl rfl rfl rfl
  have supervised : P s.supervised.allotView := by
    rw [State.supervised]
    apply h.handleEvents
    rw [State.publish_allotView]
    exact h.takePublication installed s.computed
  rw [s.expireFrame_eq]
  split
  · exact h.handleEvent supervised _
  · exact supervised

end Sys2Proof.Machine

namespace Sys2Proof.Machine

/-- The limits in use rest on the current section with its entry, and on the defaults (R56, R57). -/
theorem SectionUnit.limits_congr {u v : SectionUnit} (current : v.current = u.current) (settings : v.settings = u.settings)
    (find : ∀ id, u.current = some id → v.find id = u.find id) : v.limits = u.limits := by
  cases placed : u.current with
  | none =>
    rw [v.limits_of_none (current.trans placed), u.limits_of_none placed, SectionUnit.defaultLimits, settings]
    rfl
  | some id => simp [SectionUnit.limits, current, placed, find id placed, SectionUnit.defaultLimits, settings]

section
variable {P : AllotView → Prop} (h : AllotInvariant P) {s : State} (hs : P s.allotView)
include h hs

/-! ## The items and the requests -/

theorem AllotInvariant.setEnable (m : MonitorId) (on : Bool) : P (s.setEnable m on).allotView := by
  simp only [State.setEnable]
  split
  · exact hs
  · exact h.handOver hs _ _ _ _ rfl

/-- The default limits change: with no current section they are in use and handed on, and otherwise the limits in use are
those of an entry (R56, R57, R67). -/
theorem AllotInvariant.setSectionSettings (f : SectionSettings → SectionSettings) :
    P (s.setSectionSettings f).handDefaultLimits.allotView := by
  simp only [State.handDefaultLimits]
  split
  · exact h.handed hs _ fun o => o.settings _
  · next current =>
    refine h.sections hs _ fun o => ⟨o.settings _, ?_⟩
    obtain ⟨id, placed⟩ := Option.ne_none_iff_exists'.1 current
    obtain ⟨x, found⟩ := Option.isSome_iff_exists.1 (o.current id placed)
    exact (SectionUnit.limits_of_find _ id x placed found).trans (s.sections.limits_of_find id x placed found).symm

theorem AllotInvariant.storeItem (v : Nat) (n : NumericItem) : P (n.store s v).allotView := by
  cases n with
  | iFeedDefault | iRgmaxDefault => exact h.setSectionSettings hs _
  | expectWindow => exact h.sections hs _ fun o => ⟨o.settings _, rfl⟩
  | iBatMax =>
    simp only [NumericItem.store, State.takeBatteryLimit_allotView]
    exact h.batteryLimit hs v
  | _ => exact hs

theorem AllotInvariant.writeItem (v : Nat) (i : Item) : P (i.write s v).state.allotView := by
  have named {α : Type} (x : Option α) (store : α → State) (stored : ∀ a, P (store a).allotView) :
      P (storeNamed s x store).state.allotView :=
    storeNamed_keeps (P := fun t => P t.allotView) hs x store stored
  cases i with
  | numeric n => exact h.storeItem hs _ n
  | enable m => exact named _ _ (h.setEnable hs m)
  | filterMode m => exact named _ _ fun _ => by simpa using hs
  | decimation m => simpa [Item.write, storeLimited] using hs
  | sweepPeriod | framePeriod | readOnly => exact hs
  | boost | charge | autoRun | rate | parity | polarity | duplex | role => exact named _ _ fun _ => hs

theorem AllotInvariant.answerSetItem (item value : Half) : P (answerSetItem item value s).state.allotView := by
  simp only [Machine.answerSetItem]
  split
  · exact hs
  · split
    · exact hs
    · split
      · exact h.writeItem hs _ _
      · exact hs

theorem AllotInvariant.answerRaiseFault (number cls : Byte) : P (answerRaiseFault number cls s).state.allotView := by
  simp only [Machine.answerRaiseFault]
  split
  · exact hs
  · split
    · exact h.handleEvent hs _
    · exact hs

/-- An entry that passed its checks is written: a rewrite of the current section hands its limits on, and one of another
leaves the limits in use (R58, R59). -/
theorem AllotInvariant.writeSection {f : SectionFields} (checked : s.sections.checkEntry f = none) :
    P (s.writeSection f.entry).allotView := by
  simp only [State.writeSection]
  split
  · exact h.handed hs _ fun o => o.insert checked
  · next other =>
    refine h.sections hs _ fun o => ⟨o.insert checked, SectionUnit.limits_congr rfl rfl fun id placed => ?_⟩
    have away : f.entry.id ≠ id := fun same => other (placed.trans (congrArg some same.symm))
    rw [SectionUnit.find, insertSection_find, if_neg away]
    rfl

omit hs in
theorem AllotInvariant.writeSections (l : List SectionFields) {s : State} (hs : P s.allotView) :
    P (s.writeSections l).1.allotView := by
  induction l generalizing s with
  | nil => exact hs
  | cons f l ih =>
    simp only [State.writeSections, sectionEntryOf_eq]
    split
    · exact hs
    · next checked => exact ih (h.writeSection hs checked)

theorem AllotInvariant.answerSectionWrite (l : List SectionFields) : P (answerSectionWrite l s).state.allotView := by
  simp only [Machine.answerSectionWrite]
  split
  · exact hs
  · exact h.writeSections l hs

theorem AllotInvariant.answerSectionErase : P (answerSectionErase s).state.allotView := by
  simp only [Machine.answerSectionErase]
  split
  · exact hs
  · split
    · exact h.handed hs _ fun _ => SectionUnit.orderly_erased _
    · next current =>
      have away : s.sections.current = none := by simpa using current
      exact h.sections hs _ fun _ => ⟨SectionUnit.orderly_erased _,
        SectionUnit.limits_congr away.symm rfl fun id placed => nomatch away.symm.trans placed⟩

theorem AllotInvariant.answerSectionSet (id : Half) : P (answerSectionSet id s).state.allotView := by
  simp only [Machine.answerSectionSet]
  split
  · exact hs
  · next absent =>
    have found : (s.sections.find id.toNat).isSome = true := by simpa [Option.isSome_iff_ne_none] using absent
    split
    · next same =>
      exact h.sections hs _ fun o => ⟨o.place found, SectionUnit.limits_congr same.symm rfl fun _ _ => rfl⟩
    · exact h.handed hs _ fun o => o.place found

theorem AllotInvariant.answerSectionAhead (id : Half) : P (answerSectionAhead id s).state.allotView := by
  simp only [Machine.answerSectionAhead]
  split
  · exact hs
  · next absent =>
    have opened := h.expect hs (some (s.sections.opened id.toNat)) fun o => o.expect
      (by simpa [SectionUnit.opened, Option.isSome_iff_ne_none] using absent)
    split
    · split
      · exact hs
      · exact opened
    · exact opened

theorem AllotInvariant.answerMode (target : Byte) : P (answerMode target s).state.allotView := by
  simp only [Machine.answerMode, answerModeSetup, answerModeRun]
  split
  · split
    · exact hs
    · exact h.changeMode hs _ _
  · split
    · exact hs
    · exact hs
    · (repeat' split) <;> first | exact hs | exact h.changeMode hs _ _
  · exact hs

theorem AllotInvariant.answerBattery (value : Byte) : P (answerBattery value s).state.allotView := by
  simp only [Machine.answerBattery]
  split
  · exact hs
  · next b _ =>
    split
    · exact hs
    · cases b with
      | true => exact h.available hs
      | false =>
        simp only [Bool.false_eq_true, if_false, State.ok_state, State.takeBatteryCut_allotView]
        exact h.isolated hs

/-! ## The ports -/

omit h in
theorem takeRequest_keeps_allotView (p : PortId) (kind tag : Byte) (good : Bool) (take : State → Answer)
    (ht : P (take s).state.allotView) : P (s.takeRequest p kind tag good take).allotView := by
  rcases s.takeRequest_cases p kind tag good take with ⟨_, e⟩ | ⟨_, _, e⟩ | ⟨_, _, _, e⟩ | ⟨_, _, _, e⟩ <;> rw [e]
  · exact hs
  · exact hs
  · exact hs
  · exact ht

theorem AllotInvariant.takeCommand (i : Instr) : P (s.takeCommand i).allotView := by
  cases i with
  | setItem => exact takeRequest_keeps_allotView hs _ _ _ _ _ (h.answerSetItem hs _ _)
  | raiseFault => exact takeRequest_keeps_allotView hs _ _ _ _ _ (h.answerRaiseFault hs _ _)
  | sectionWrite => exact takeRequest_keeps_allotView hs _ _ _ _ _ (h.answerSectionWrite hs _)
  | sectionErase => exact takeRequest_keeps_allotView hs _ _ _ _ _ (h.answerSectionErase hs)
  | sectionSet => exact takeRequest_keeps_allotView hs _ _ _ _ _ (h.answerSectionSet hs _)
  | sectionAhead => exact takeRequest_keeps_allotView hs _ _ _ _ _ (h.answerSectionAhead hs _)
  | lower => exact takeRequest_keeps_allotView hs _ _ _ _ _ (h.lowerPoles hs)
  | mode => exact takeRequest_keeps_allotView hs _ _ _ _ _ (h.answerMode hs _)
  | battery => exact takeRequest_keeps_allotView hs _ _ _ _ _ (h.answerBattery hs _)
  | readAllotment | readContact | readAlarms | readHistory | readFaults | readAux | readSection | readMeasure | readItem
  | portStatus | poll | demand | auxStart | auxStop | auxWrite | auxRemove | routeWrite | ackAlarm | clearHistory
  | setHistoryPolicy | clearFault | clearFlags | check | save | reset | raise | tractionInhibit =>
    exact takeRequest_keeps_allotView hs _ _ _ _ _ (by simpa using hs)
  | _ => exact hs

theorem AllotInvariant.takeByte (p : PortId) (b : Byte) (error : Bool) : P (s.takeByte p b error).allotView := by
  simp only [State.takeByte]
  split
  · exact hs
  · split
    · exact hs
    · split
      · split <;> exact hs
      · split <;> exact hs
      · split
        · exact hs
        · split
          · simp only [State.takeBody]
            split
            · simpa using hs
            · simpa using hs
            · apply h.takeCommand
              exact hs
          · exact hs

end

/-! ## Start-up, every command and every step -/

/-- What start-up leaves, whatever the memory holds (R167). -/
theorem State.startUp_startedFrom (s : State) :
    ∃ faults, s.startUp.beginWaiting.StartedFrom s s.store.nv.judge.2 faults := by
  by_cases corrupt : s.store.nv.judge.1 = .corrupt
  · obtain ⟨f, started, -⟩ := s.startUp_corrupt corrupt
    exact ⟨_, started⟩
  · exact ⟨_, s.startUp_started corrupt⟩

section
variable {P : AllotView → Prop} (h : AllotInvariant P)
include h

/-- Start-up leaves the reset record with no current section and the contact state OFF_WIRE (R35, R68, R95, R167). -/
theorem AllotInvariant.startUp (s : State) : P s.startUp.allotView := by
  obtain ⟨faults, -, contact, sections, -, allot, -⟩ := s.startUp_startedFrom
  rw [← State.beginWaiting_allotView, State.allotView, contact, sections, allot]
  exact h.restart _ _ _ (SectionUnit.afterReset_orderly _)

variable {s t : State} (hs : P s.allotView)
include hs

theorem AllotInvariant.endHold : P s.endHold.allotView := by
  simp only [State.endHold]
  split
  · exact h.startUp s
  · exact hs

theorem AllotInvariant.transmitted (p : PortId) : P (s.transmitted p).allotView := by
  simp only [State.transmitted]
  split
  · split
    · exact hs
    · split
      · exact h.startUp _
      · exact hs
  · exact hs
  · exact hs

/-- A reset stops the reclose timer and drops the expectation (R165). -/
theorem AllotInvariant.abandon : P s.abandon.allotView :=
  h.reclose (h.expect hs none fun o => o.drop) .stopped nofun

theorem AllotInvariant.tick : P s.tick.allotView := by
  refine h.reclose (v := { s.allotView with sections := s.tick.sections }) (h.sections hs _ fun o => ⟨?_, rfl⟩)
    s.allot.reclose.tick (by simp [State.allotView])
  exact State.tick_orderly o

omit h in
/-- An event keeps the condition where what it does to a part out of reset does. -/
theorem act_keeps_allotView {f : State → State} (hf : P (f s).allotView) (ht : s.act f = .next t) : P t.allotView := by
  simp only [State.act] at ht
  split at ht
  · cases ht
    exact hf
  · cases ht
    exact hs

omit h in
theorem actFrame_keeps_allotView {p : PortId} {f : State → State} (hf : P (f (s.hunt p)).allotView)
    (ht : s.actFrame p f = .next t) : P t.allotView := by
  refine act_keeps_allotView hs ?_ ht
  split
  · exact hs
  · exact hf

theorem AllotInvariant.exec_keeps (i : Instr) (ht : exec i s = .next t) : P t.allotView := by
  cases hb : bodyOf i with
  | some x =>
    rw [exec_of_bodyOf i x hb] at ht
    exact actFrame_keeps_allotView hs (h.takeCommand (by simpa using hs) i) ht
  | none =>
    unfold exec at ht
    cases i with
    | sweepCompletion codes =>
      refine act_keeps_allotView hs ?_ ht
      split
      · exact h.sweep hs codes
      · exact hs
    | seatTimerExpiry p => exact act_keeps_allotView hs (h.seatExpired hs p) ht
    | gapTimerExpiry => exact act_keeps_allotView hs (h.gapExpired hs) ht
    | loweringTimerExpiry => exact act_keeps_allotView hs (h.loweringExpired hs) ht
    | windowExpiry => exact act_keeps_allotView hs (h.windowExpired hs) ht
    | frameExpiry =>
      refine act_keeps_allotView hs ?_ ht
      split
      · exact h.expireFrame hs
      · exact hs
    | recloseExpiry =>
      refine act_keeps_allotView hs ?_ ht
      split
      · exact h.reclose hs .stopped nofun
      · exact hs
    | inrushExpiry | onTimerExpiry | runTimerExpiry | offInhibitExpiry =>
      exact act_keeps_allotView hs (by simpa using hs) ht
    | stallTimerExpiry => exact act_keeps_allotView hs (h.stallExpired hs) ht
    | saveCompletion agrees => exact act_keeps_allotView hs (by simpa using hs) ht
    | receiveGapTimeout p =>
      refine act_keeps_allotView hs ?_ ht
      split <;> exact hs
    | frameCheckFailed p failure => exact actFrame_keeps_allotView hs (by simpa using hs) ht
    | unknownRequest p tag kind => exact actFrame_keeps_allotView hs (by simpa using hs) ht
    | transmitComplete p => exact act_keeps_allotView hs (h.transmitted hs p) ht
    | byteReceived p b error => exact act_keeps_allotView hs (h.takeByte hs p b error) ht
    | powerOn | supplyLow =>
      cases ht
      exact h.abandon hs
    | retentionLost =>
      cases ht
      exact hs
    | supplyStableExpiry =>
      simp only [execSupplyStableExpiry] at ht
      split at ht <;> cases ht
      · apply h.endHold
        exact hs
      · exact hs
    | pinResetAssert =>
      simp only [execPinResetAssert] at ht
      split at ht <;> cases ht
      · exact hs
      · exact h.abandon hs
    | pinResetRelease =>
      simp only [execPinResetRelease] at ht
      split at ht <;> cases ht
      · apply h.endHold
        exact hs
      · exact hs
    | _ => cases hb

/-- A condition of the view that its changes keep is kept by every step. -/
theorem AllotInvariant.step_keeps (ht : step s = .next t) : P t.allotView := by
  cases queue : s.pending with
  | nil =>
    simp only [step, queue] at ht
    cases ht
    exact h.tick hs
  | cons i rest =>
    simp only [step, queue] at ht
    exact h.exec_keeps (s := { s with pending := rest }) hs i ht

end

/-- Settles O46: every change of the record in force, of the mode, the contact state, the limits in use and the battery is
one of the ways of `AllotInvariant`, and each of the three laws is kept by each of them. -/
theorem allotmentLawsAreKept : Obligations.AllotmentLawsAreKept := by
  refine ⟨fun s t sums ht => sums_invariant.step_keeps sums ht, fun s t law line ht => ?_,
    fun s t battery ht => t.batteryLaw_iff.2 (battery_invariant.step_keeps (s.batteryLaw_iff.1 battery) ht)⟩
  have kept := line_invariant.step_keeps ((s.lineLaw_iff (s.sectionLaw_iff.1 law)).1 line) ht
  exact (t.lineLaw_iff kept.orderly).2 kept

end Sys2Proof.Machine

namespace Sys2Proof.Machine

/-! ## No modification raises a total (R85 to R90, R98, R100) -/

/-- A modified record raises no consumer's total and no regeneration ceiling, keeps what the frame fixed, and keeps the
sums. -/
def Record.Lowers (q r : Record) : Prop :=
  q.essentialTotal ≤ r.essentialTotal ∧ q.aCprot ≤ r.aCprot ∧ q.aCfree ≤ r.aCfree ∧ q.aCh ≤ r.aCh ∧
    q.tractionTotal ≤ r.tractionTotal ∧ q.aRg ≤ r.aRg ∧ q.frame = r.frame ∧ q.means = r.means ∧
    q.factors = r.factors ∧ q.Sums

section
variable {r : Record} (h : r.Sums)
include h

/-- With the sums kept the ceiling falls with its parts (R105). -/
theorem Record.Sums.ceiling_le {q : Record} (hq : q.Sums) (line : q.aRgLine ≤ r.aRgLine) (bat : q.aRgBat ≤ r.aRgBat)
    (aux : q.auxShares ≤ r.auxShares) : q.aRg ≤ r.aRg := by
  obtain ⟨-, -, -, ownAux, own⟩ := hq
  obtain ⟨-, -, -, oldAux, old⟩ := h
  omega

theorem Record.Sums.cutNow_lowers : r.cutNow.Lowers r := by
  have aux : r.cutNow.auxShares ≤ r.auxShares := by
    simp only [Record.cutNow, Record.auxShares, Record.essentialTotal]
    omega
  refine ⟨?_, Nat.zero_le _, Nat.zero_le _, Nat.zero_le _, ?_, h.ceiling_le r.sums_cutNow (Nat.zero_le _) le_rfl aux,
    rfl, rfl, rfl, r.sums_cutNow⟩
  · simp only [Record.cutNow, Record.essentialTotal]
    omega
  · simp only [Record.cutNow, Record.tractionTotal]
    omega

theorem Record.Sums.overvoltageCut_lowers : r.overvoltageCut.Lowers r :=
  ⟨le_rfl, le_rfl, le_rfl, le_rfl, le_rfl, h.ceiling_le h.overvoltageCut (Nat.zero_le _) le_rfl le_rfl, rfl, rfl, rfl,
    h.overvoltageCut⟩

theorem Record.Sums.modeCut_lowers (m : Mode) : (r.modeCut m).Lowers r := by
  have aux : (r.modeCut m).auxShares ≤ r.auxShares := by
    simp only [Record.modeCut, Record.auxShares]
    omega
  exact ⟨le_rfl, Nat.zero_le _, Nat.zero_le _, Nat.zero_le _, Nat.zero_le _,
    h.ceiling_le (h.modeCut m) (Nat.zero_le _) le_rfl aux, rfl, rfl, rfl, h.modeCut m⟩

omit h in
/-- A limit change leaves what the frame fixed, the shortfall and the flags (R90). -/
theorem Record.fitLimits_fixed (l : Limits) : (r.fitLimits l).frame = r.frame ∧ (r.fitLimits l).means = r.means ∧
    (r.fitLimits l).factors = r.factors ∧ (r.fitLimits l).shortfall = r.shortfall ∧
    (r.fitLimits l).flags = r.flags := by
  simp only [Record.fitLimits, Record.withCeiling, Record.fitFeeder]
  split <;> exact ⟨rfl, rfl, rfl, rfl, rfl⟩

omit h in
/-- A limit change leaves the battery's shares (R90). -/
theorem Record.fitLimits_battery (l : Limits) : (r.fitLimits l).aEssBat = r.aEssBat ∧
    (r.fitLimits l).aTrBat = r.aTrBat ∧ (r.fitLimits l).aRgBat = r.aRgBat := by
  obtain ⟨ess, tr, -, -, -, rg⟩ := r.fitFeeder_battery l.iFeed
  exact ⟨ess, tr, rg⟩

theorem Record.Sums.fitLimits_lowers (l : Limits) : (r.fitLimits l).Lowers r := by
  obtain ⟨ess, prot, -, free, ch, tr, rg⟩ := r.fitLimits_le h.1 l
  obtain ⟨essBat, trBat, rgBat⟩ := Record.fitLimits_battery (r := r) l
  obtain ⟨frame, means, factors, -⟩ := Record.fitLimits_fixed (r := r) l
  refine ⟨?_, prot, free, ch, ?_, h.ceiling_le (h.fitLimits l) rg rgBat.le ?_, frame, means, factors, h.fitLimits l⟩
  · simp only [Record.essentialTotal]
    omega
  · simp only [Record.tractionTotal]
    omega
  · simp only [Record.auxShares]
    omega

theorem Record.Sums.batteryCut_lowers : r.batteryCut.Lowers r := by
  have aux : r.batteryCut.auxShares ≤ r.auxShares := by
    simp only [Record.batteryCut, Record.withCeiling, Record.auxShares]
    omega
  exact ⟨Nat.add_le_add_left (Nat.zero_le _) _, le_rfl, le_rfl, Nat.zero_le _, Nat.add_le_add_left (Nat.zero_le _) _,
    h.ceiling_le h.batteryCut le_rfl (Nat.zero_le _) aux, rfl, rfl, rfl, h.batteryCut⟩

omit h in
/-- The battery's side of a record fitted to a lower I_bat_max: the draw above it is taken from traction and then from the
essential share (R100). -/
theorem Record.fitBattery_drawn (i : Nat) : let q := r.fitBattery i
    ∃ x1 x2, Drawn r.aTrBat q.aTrBat (r.aEssBat + r.aTrBat - i) x1 ∧ Drawn r.aEssBat q.aEssBat x1 x2 ∧ q.bBat = i ∧
      q.hBat = i - q.aEssBat - q.aTrBat ∧ q.aRgBat = r.aRgBat ∧ q.frame = r.frame ∧ q.means = r.means ∧
      q.factors = r.factors ∧ q.flags = r.flags := by
  simp only [Record.fitBattery]
  split <;> exact ⟨_, _, drawn_min _ _, drawn_min _ _, rfl, rfl, rfl, rfl, rfl, rfl, rfl⟩

theorem Record.Sums.fitBattery_lowers (i : Nat) : (r.fitBattery i).Lowers r := by
  obtain ⟨ess, prot, res, free, ch, tr, rg, -⟩ := r.fitBattery_line i
  obtain ⟨x1, x2, ⟨trBat, -⟩, ⟨essBat, -⟩, -, -, rgBat, frame, means, factors, -⟩ := Record.fitBattery_drawn (r := r) i
  refine ⟨?_, prot.le, free.le, ch.le, ?_, h.ceiling_le (h.fitBattery i) rg.le rgBat.le ?_, frame, means, factors,
    h.fitBattery i⟩
  · simp only [Record.essentialTotal]
    omega
  · simp only [Record.tractionTotal]
    omega
  · simp only [Record.auxShares]
    omega

end

/-! ## What is taken, and from which share (R90, R100) -/

section
variable {r : Record} (h : r.Sums)
include h

/-- A feeder limit below the line budget takes the draw above it, and no more, in the reverse of the walk's order (R90). -/
theorem Record.Sums.fitLimits_order (l : Limits) (lower : l.iFeed < r.bLine) :
    let q := r.fitLimits l
    q.bLine = l.iFeed ∧ q.lineDraw = min r.lineDraw l.iFeed ∧ q.hLine = l.iFeed - q.lineDraw ∧
      (q.aCfree < r.aCfree → q.aCh = 0) ∧
      (q.aTrLine < r.aTrLine → q.aCh = 0 ∧ q.aCfree ≤ r.aCres) ∧
      (q.aCres < r.aCres → q.aCh = 0 ∧ q.aTrLine = 0 ∧ q.aCfree = q.aCres) ∧
      (q.aCprot < r.aCprot → q.aCh = 0 ∧ q.aTrLine = 0 ∧ q.aCfree = 0) ∧
      (q.aEssLine < r.aEssLine → q.aCh = 0 ∧ q.aTrLine = 0 ∧ q.aCfree = 0 ∧ q.aCprot = 0) := by
  have reserve := h.1
  obtain ⟨x1, x2, x3, x4, x5, x6, ch, free, tr, res, prot, ess, kept, budget, spare⟩ :=
    r.fitFeeder_lower l.iFeed reserve lower
  have draw := r.fitFeeder_draw l.iFeed reserve lower
  simp only [Record.fitLimits, Record.withCeiling]
  generalize r.fitFeeder l.iFeed = q at *
  have noCh (left : 0 < x1) : q.aCh = 0 := (ch.used_up left).1
  have noFree (left : 0 < x2) : q.aCh = 0 ∧ q.aCfree = q.aCres := by
    have := free.used_up left
    exact ⟨noCh this.2, by omega⟩
  have noTr (left : 0 < x3) : q.aCh = 0 ∧ q.aTrLine = 0 ∧ q.aCfree = q.aCres := by
    obtain ⟨used, pos⟩ := tr.used_up left
    obtain ⟨noCh, noFree⟩ := noFree pos
    exact ⟨noCh, used, noFree⟩
  have noRes (left : 0 < x4) : q.aCh = 0 ∧ q.aTrLine = 0 ∧ q.aCfree = 0 := by
    obtain ⟨used, pos⟩ := res.used_up left
    obtain ⟨noCh, noTr, noFree⟩ := noTr pos
    exact ⟨noCh, noTr, noFree.trans used⟩
  have resLe : q.aCres ≤ r.aCres := res.1
  refine ⟨budget, draw, spare, fun lowered => ?_, fun lowered => ?_, fun lowered => noTr (res.pos_of_lowered lowered),
    fun lowered => noRes (prot.pos_of_lowered lowered), fun lowered => ?_⟩
  · by_cases resLowered : q.aCres < r.aCres
    · exact (noTr (res.pos_of_lowered resLowered)).1
    · exact noCh (free.pos_of_lowered (by omega))
  · obtain ⟨noCh, noFree⟩ := noFree (tr.pos_of_lowered lowered)
    exact ⟨noCh, by omega⟩
  · obtain ⟨used, pos⟩ := prot.used_up (ess.pos_of_lowered lowered)
    obtain ⟨noCh, noTr, noFree⟩ := noRes pos
    exact ⟨noCh, noTr, noFree, used⟩

end

/-- A limit change with a feeder limit not below the line budget leaves the line budget, the draw and the spare (R90). -/
theorem Record.fitLimits_same (r : Record) (l : Limits) (same : r.bLine ≤ l.iFeed) :
    (r.fitLimits l).bLine = r.bLine ∧ (r.fitLimits l).lineDraw = r.lineDraw ∧ (r.fitLimits l).hLine = r.hLine := by
  simp only [Record.fitLimits, r.fitFeeder_same l.iFeed same]
  exact ⟨rfl, rfl, rfl⟩

/-- The line regeneration share after a limit change (R90). -/
theorem Record.fitLimits_aRgLine (r : Record) (l : Limits) :
    (r.fitLimits l).aRgLine = if l.permitted then min r.aRgLine l.iRgmax else 0 := by
  obtain ⟨-, -, -, -, same, -⟩ := r.fitFeeder_battery l.iFeed
  simp only [Record.fitLimits, Record.withCeiling, same]

/-- What a lower I_bat_max takes, and from which share (R100). -/
theorem Record.fitBattery_order (r : Record) (i : Nat) :
    let q := r.fitBattery i
    q.bBat = i ∧ q.aEssBat + q.aTrBat = min (r.aEssBat + r.aTrBat) i ∧ (q.aEssBat < r.aEssBat → q.aTrBat = 0) ∧
      q.hBat = i - q.aEssBat - q.aTrBat ∧ q.lineDraw = r.lineDraw ∧ q.bLine = r.bLine ∧ q.aRgLine = r.aRgLine ∧
      q.aRgBat = r.aRgBat ∧ q.flags = r.flags := by
  obtain ⟨ess, prot, res, free, ch, tr, rg, budget, -⟩ := r.fitBattery_line i
  obtain ⟨x1, x2, trBat, essBat, limit, spare, rgBat, -, -, -, flags⟩ := Record.fitBattery_drawn (r := r) i
  unfold Drawn at trBat essBat
  exact ⟨limit, by omega, by omega, spare, by simp only [Record.lineDraw, ess, prot, free, ch, tr], budget, rg, rgBat,
    flags⟩

/-- A limit change lowers something in one of the two ways that R90 names. -/
theorem Record.limitLowers_iff (r : Record) (l : Limits) : r.limitLowers l = true ↔
    l.iFeed < r.bLine ∨ (0 < r.aRgLine ∧ (l.permitted = false ∨ l.iRgmax < r.aRgLine)) := by
  simp [Record.limitLowers]

/-- Settles O45: each modification by what it lowers, by what it takes and in which order, and by what it marks and
publishes. -/
theorem modificationsRaiseNoTotal : Obligations.ModificationsRaiseNoTotal := by
  refine ⟨fun r m l i h => ⟨h.cutNow_lowers, h.overvoltageCut_lowers, h.modeCut_lowers m, h.fitLimits_lowers l,
    h.batteryCut_lowers, fun _ => h.fitBattery_lowers i, ⟨r.cutNow_noneButEssential, rfl, rfl, rfl, rfl, rfl⟩, rfl,
    ⟨r.modeCut_noneButEssential m, rfl, rfl, rfl, rfl⟩, r.fitLimits_same l, h.fitLimits_order l, fun refused => ?_,
    fun permitted => ?_, ?_, fun _ => r.fitBattery_order i, rfl, rfl, rfl, rfl, rfl, rfl, rfl, rfl⟩,
    fun s l i => ⟨?_, rfl⟩⟩
  · simp [r.fitLimits_aRgLine, refused]
  · simp [r.fitLimits_aRgLine, permitted]
  · obtain ⟨ess, tr, -⟩ := Record.fitLimits_battery (r := r) l
    obtain ⟨-, -, -, shortfall, flags⟩ := Record.fitLimits_fixed (r := r) l
    exact ⟨ess, tr, shortfall, flags⟩
  · simp only [State.takeLimits, Record.limitLowers_iff]
    rfl

end Sys2Proof.Machine

namespace Sys2Proof.Machine

/-! ## The computation of a record, stage by stage (R74 to R84, R102 to R108) -/

section
variable (u : AllotmentUnit) (i : FrameInputs)

/-- The request is what DEMAND asks for in MOTOR, with no inhibit set, in RUN (R78). -/
theorem AllotmentUnit.request_of_run : u.request .run =
    match u.demand with
    | some x => if x.mode = .motor ∧ u.inhibit = none then x.effective else 0
    | none => 0 := by
  unfold AllotmentUnit.request
  cases u.demand <;> simp

theorem AllotmentUnit.demandMode_ne_brake_iff : u.demandMode ≠ .brake ↔ ∀ x, u.demand = some x → x.mode ≠ .brake := by
  unfold AllotmentUnit.demandMode
  cases u.demand <;> simp

/-- The charge demand of RUN (R103). -/
theorem AllotmentUnit.chargeDemand_of_run (kC : Nat) : u.chargeDemand .run kC =
    if u.battery.charge = true ∧ u.batteryAvailable = true ∧ (∀ x, u.demand = some x → x.mode ≠ .brake)
      then u.battery.iBatChg * kC / 1024 else 0 := by
  simp only [AllotmentUnit.chargeDemand, true_and, scaled, u.demandMode_ne_brake_iff]

/-- What a record takes over from its frame (R74). -/
theorem AllotmentUnit.compute_heading : let r := u.compute i
    r.frame = i.frame ∧ r.mode = i.mode ∧
      (r.lineAvailable = true ↔ i.contact = .contact ∧ u.reclose.isRunning = false) ∧ r.means = i.means ∧
      r.factors = u.factors i.means :=
  ⟨rfl, rfl, lineAvailable_iff _ _, rfl, rfl⟩

/-- The two budgets and the battery's regeneration share (R76, R77, R105). -/
theorem AllotmentUnit.compute_budgets : let r := u.compute i
    let k := u.factors i.means
    r.bLine = (if i.contact = .contact ∧ u.reclose.isRunning = false then i.limits.iFeed * k.kV / 1024 else 0) ∧
      r.bBat = (if u.batteryAvailable then u.battery.iBatMax * k.kB / 1024 else 0) ∧
      r.aRgBat = (if u.batteryAvailable then u.battery.iBatChg * k.kC / 1024 else 0) := by
  simp only [AllotmentUnit.compute, scaled, lineAvailable_iff, and_self]

/-- The four flags (R84). -/
theorem AllotmentUnit.compute_flags : let r := u.compute i
    let available := i.contact = .contact ∧ u.reclose.isRunning = false
    (r.flags.cut = true ↔ ¬available) ∧ (r.flags.sag = true ↔ available ∧ (u.factors i.means).kV < 1024) ∧
      (r.flags.inhibit = true ↔ u.inhibit ≠ none) ∧ r.flags.stale = i.stale := by
  simp only [AllotmentUnit.compute, newFlags, ← lineAvailable_iff]
  simp [lineAvailable, Option.isSome_iff_ne_none, imp_iff_not_or]

/-- The walk of RUN over the two pools (R78, R80, R103). -/
theorem AllotmentUnit.compute_walk_of_run (run : i.mode = .run) : let r := u.compute i
    let d := i.totals
    let rt := u.effectiveRequest .run
    r.aEssLine = min d.dEss r.bLine ∧ r.aEssBat = min (d.dEss - r.aEssLine) r.bBat ∧
      r.aCprot = min d.dCprot (r.bLine - r.aEssLine) ∧
      r.aCres = min (min u.line.rCom d.dCfree) (r.bLine - r.aEssLine - r.aCprot) ∧
      r.aTrLine = min rt (r.bLine - r.aEssLine - r.aCprot - r.aCres) ∧
      r.aTrBat = (if u.battery.boost || !lineAvailable i.contact u.reclose
        then min (rt - r.aTrLine) (r.bBat - r.aEssBat) else 0) ∧
      r.aCfree = r.aCres + min (d.dCfree - r.aCres) (r.bLine - r.aEssLine - r.aCprot - r.aCres - r.aTrLine) ∧
      r.aCh = min (u.chargeDemand .run (u.factors i.means).kC)
        (r.bLine - r.aEssLine - r.aCprot - r.aTrLine - r.aCfree) := by
  have walk := walkRun_shares (u.compute i).bLine (u.compute i).bBat i.totals u.line.rCom (u.effectiveRequest .run)
    (u.battery.boost || !lineAvailable i.contact u.reclose) (u.chargeDemand .run (u.factors i.means).kC)
  obtain ⟨essLine, essBat, cprot, cres, trLine, trBat, cfree, ch, -, -⟩ := walk
  simp only [AllotmentUnit.compute, run, if_true] at *
  exact ⟨essLine, essBat, cprot, cres, trLine, trBat, cfree, ch⟩

/-- The walk of SETUP and HALT is its first step alone, and nothing is returned to the line (R81, R108). -/
theorem AllotmentUnit.compute_walk_of_not_run (idle : i.mode ≠ .run) : let r := u.compute i
    r.aEssLine = min i.totals.dEss r.bLine ∧ r.aEssBat = min (i.totals.dEss - r.aEssLine) r.bBat ∧ r.aTrBat = 0 ∧
      r.noneButEssential := by
  simp [AllotmentUnit.compute, walkReduced, Record.noneButEssential, idle]

/-- The line's regeneration share (R104, R105, R108). -/
theorem AllotmentUnit.compute_aRgLine : (u.compute i).aRgLine =
    if lineAvailable i.contact u.reclose && i.limits.permitted && !i.overvolt && i.mode == .run
      then i.limits.iRgmax * (u.factors i.means).kOv / 1024 else 0 :=
  rfl

/-- The spare and the ceiling are made up by the sums, the shortfall is the ungranted free demand (R82, R105). -/
theorem AllotmentUnit.compute_rest : let r := u.compute i
    r.hLine = r.bLine - r.lineDraw ∧ r.hBat = r.bBat - r.aEssBat - r.aTrBat ∧
      r.shortfall = i.totals.dCfree - r.aCfree ∧ r.aRgAux = r.aEssLine + r.aEssBat + r.aCprot + r.aCfree ∧
      r.aRg = min 800 (r.aRgLine + r.aRgBat + r.aRgAux) := by
  obtain ⟨-, line, bat, -, -⟩ := u.compute_sums i
  exact ⟨by omega, by omega, rfl, rfl, rfl⟩

end

/-- Settles O39: the record by its stages, in RUN and outside it. -/
theorem walkGrantsInOrder : Obligations.WalkGrantsInOrder := by
  constructor
  · intro u i run r k available d rt rtEff charge
    have mode : r.mode = .run := run
    have request : u.effectiveRequest .run = rtEff := by
      simp only [AllotmentUnit.effectiveRequest, u.request_of_run, Record.tractionTotal]
      rfl
    obtain ⟨frame, -, line, means, factors⟩ := u.compute_heading i
    obtain ⟨bLine, bBat, aRgBat⟩ := u.compute_budgets i
    obtain ⟨essLine, essBat, cprot, cres, trLine, trBat, cfree, ch⟩ := u.compute_walk_of_run i run
    obtain ⟨hLine, hBat, shortfall, aRgAux, aRg⟩ := u.compute_rest i
    obtain ⟨cut, sag, inhibit, stale⟩ := u.compute_flags i
    have aRgLine := u.compute_aRgLine i
    rw [request] at trLine trBat
    rw [u.chargeDemand_of_run] at ch
    have onLine : lineAvailable i.contact u.reclose = true ↔ available := lineAvailable_iff _ _
    refine ⟨frame, mode, line, means, factors, fun on => bLine.trans (if_pos on), fun off => bLine.trans (if_neg off),
      bBat, essLine, essBat, cprot, cres, trLine, fun battery => trBat.trans (if_pos ?_),
      fun noBoost on => trBat.trans (if_neg ?_), cfree, ch, hLine, hBat, shortfall,
      fun on permitted quiet => aRgLine.trans (if_pos ?_), fun off => aRgLine.trans (if_neg ?_), aRgBat, aRgAux, aRg,
      cut, sag, inhibit, stale⟩
    · simpa [← onLine] using battery
    · simp [noBoost, onLine.2 on]
    · simp [onLine.2 on, permitted, quiet, run]
    · simp only [← onLine, Bool.not_eq_true] at off
      obtain off | off | off := off <;> simp [off]
  · intro u i idle r k available
    obtain ⟨frame, mode, line, means, factors⟩ := u.compute_heading i
    obtain ⟨bLine, bBat, aRgBat⟩ := u.compute_budgets i
    obtain ⟨essLine, essBat, trBat, essential⟩ := u.compute_walk_of_not_run i idle
    obtain ⟨hLine, hBat, shortfall, aRgAux, aRg⟩ := u.compute_rest i
    have := essential
    obtain ⟨cprot, cres, cfree, ch, trLine, rgLine⟩ := this
    have ceiling : (u.compute i).aRg =
        min 800 ((u.compute i).aRgBat + (u.compute i).aEssLine + (u.compute i).aEssBat) := by
      rw [aRg, aRgAux, rgLine, cprot, cfree]
      congr 1
      omega
    simp only [Record.lineDraw, cprot, cfree, ch, trLine, trBat] at hLine hBat shortfall
    exact ⟨frame, mode, line, means, factors, essLine, essBat, trBat, essential, hLine, hBat, shortfall, bLine, bBat,
      aRgBat, ceiling, u.compute_flags i⟩

end Sys2Proof.Machine

namespace Sys2Proof.Machine

/-! ## Demand totals and orders as sums and as a table (R79, R136) -/

/-- Demand totals added up over a list are three sums. -/
theorem DemandTotals.foldl_add {α : Type} (f : α → Option DemandTotals) (l : List α) (t : DemandTotals) :
    l.foldl (fun t i => match f i with
      | some d => t.add d
      | none => t) t =
      ⟨t.dEss + (l.map fun i => ((f i).map DemandTotals.dEss).getD 0).sum,
        t.dCprot + (l.map fun i => ((f i).map DemandTotals.dCprot).getD 0).sum,
        t.dCfree + (l.map fun i => ((f i).map DemandTotals.dCfree).getD 0).sum⟩ := by
  induction l generalizing t with
  | nil => simp
  | cons i l ih =>
    rw [List.foldl_cons, ih]
    cases h : f i <;> simp [DemandTotals.add, h, Nat.add_assoc]

section
variable (a : Sequencer)

/-- The sum of a figure over the records present. -/
def Sequencer.sum (f : AuxRecord → Nat) : Nat := ((List.finRange 12).map fun i : Slot => ((a.table[i]).map f).getD 0).sum

theorem Sequencer.totals_eq : a.totals = ⟨a.sum fun r => r.demand.dEss, a.sum fun r => r.demand.dCprot,
    a.sum fun r => r.demand.dCfree⟩ := by
  have fold := DemandTotals.foldl_add (fun i : Slot => (a.table[i]).map AuxRecord.demand) slots ⟨0, 0, 0⟩
  simp only [Option.map_map, Nat.zero_add] at fold
  refine Eq.trans ?_ fold
  unfold Sequencer.totals
  congr 1
  funext t i
  cases a.table[i] <;> rfl

theorem Sequencer.orders_iff (i : Slot) :
    a.orders[i] = true ↔ ∃ r, a.table[i] = some r ∧ (r.state = .starting ∨ r.state = .running) := by
  simp only [Sequencer.orders, Fin.getElem_fin, Vector.getElem_ofFn]
  cases a.table[i.val] <;> simp [AuxRecord.isOn]

end

theorem AuxRecord.demand_dEss (r : AuxRecord) : r.demand.dEss = if r.config.tier = .essential then
    (if r.state = .starting then r.config.iIn else if r.state = .running then r.config.iRun else 0) else 0 := by
  unfold AuxRecord.demand
  split <;> simp_all
  split <;> rfl

theorem AuxRecord.demand_dCprot (r : AuxRecord) : r.demand.dCprot = if r.config.tier = .comfort then
    (if r.state = .starting then r.config.iIn
      else if r.state = .running ∧ r.onTimer.isRunning = true then r.config.iRun else 0) else 0 := by
  unfold AuxRecord.demand
  split <;> simp_all
  split <;> rfl

theorem AuxRecord.demand_dCfree (r : AuxRecord) : r.demand.dCfree =
    if r.config.tier = .comfort ∧ r.state = .running ∧ r.onTimer.isRunning = false then r.config.iRun else 0 := by
  unfold AuxRecord.demand
  split <;> simp_all
  split <;> simp_all

/-! ## The start queue (R133, R135) -/

section
variable (a : Sequencer) (i : Slot) (x y : List Slot)

/-- A record joins behind the last record of its tier (R133, R135). -/
theorem Sequencer.join_eq (queue : a.queue = x ++ y) (absent : i ∉ a.queue) (essential : ∀ j ∈ x, a.isEssential j = true)
    (comfort : ∀ j ∈ y, a.isEssential j = false) : a.join i = { a with
      queue := (if a.isEssential i = true then x ++ i :: y else x ++ y ++ [i])
      stall := (if x = [] ∧ (a.isEssential i = true ∨ y = []) then .running a.settings.startWaitMax else a.stall) } := by
  have ahead : a.queue.takeWhile a.isEssential = x := by
    rw [queue, List.takeWhile_append_of_pos essential]
    cases y with
    | nil => simp
    | cons j y => simp [comfort j]
  have behind : a.queue.dropWhile a.isEssential = y := by
    rw [queue, List.dropWhile_append_of_pos essential]
    cases y with
    | nil => simp
    | cons j y => simp [comfort j]
  unfold Sequencer.join
  rw [ahead, behind]
  split <;> cases x <;> cases y <;> simp_all [Sequencer.setQueue]

/-- A record leaves and those behind it move up (R133, R135). -/
theorem Sequencer.leave_eq (queue : a.queue = x ++ i :: y) (ahead : i ∉ x) (behind : i ∉ y) : a.leave i = { a with
      queue := x ++ y
      stall := (if x ++ y = [] then .stopped else if x = [] then .running a.settings.startWaitMax else a.stall) } := by
  have left : a.queue.filter (· != i) = x ++ y := by
    have kept (l : List Slot) (h : i ∉ l) : l.filter (· != i) = l :=
      List.filter_eq_self.2 fun j hj => by simpa using fun same : j = i => h (same ▸ hj)
    rw [queue, List.filter_append, List.filter_cons_of_neg (by simp), kept x ahead, kept y behind]
  unfold Sequencer.leave
  rw [left]
  have apart : ∀ j ∈ y, j ≠ i := fun j hj same => behind (same ▸ hj)
  clear behind left
  cases x <;> cases y <;> simp_all [Sequencer.setQueue]

@[simp] theorem Sequencer.join_table : (a.join i).table = a.table := by
  unfold Sequencer.join
  split <;> rfl

@[simp] theorem Sequencer.join_starting : (a.join i).starting = a.starting := by
  unfold Sequencer.join
  split <;> rfl

@[simp] theorem Sequencer.put_self (r : AuxRecord) : (a.put i r).table[i] = some r := by
  simp [Sequencer.put]

theorem Sequencer.put_other (r : AuxRecord) {j : Slot} (other : j ≠ i) : (a.put i r).table[j] = a.table[j] := by
  have : i.val ≠ j.val := fun same => other (Fin.ext same.symm)
  simp [Sequencer.put, this]

end

/-! ## Stops (R125, R128, R130 to R132, R142) -/

/-- A record but for its stamp, which goes where there was none (R130). -/
def AuxRecord.Restamped (q r : AuxRecord) : Prop := q = { r with stamp := q.stamp } ∧ (r.stamp = none → q.stamp = none)

/-- A slot keeps its record but for the stamp. -/
def Sequencer.Restamps (a b : Sequencer) (i : Slot) : Prop :=
  (a.table[i] = none → b.table[i] = none) ∧ ∀ r, a.table[i] = some r → ∃ q, b.table[i] = some q ∧ q.Restamped r

theorem Sequencer.Restamps.of_eq {a b : Sequencer} {i : Slot} (same : b.table[i] = a.table[i]) : a.Restamps b i :=
  ⟨fun h => same.trans h, fun r h => ⟨r, same.trans h, rfl, id⟩⟩

theorem Sequencer.Restamps.trans {a b c : Sequencer} {i : Slot} (first : a.Restamps b i) (next : b.Restamps c i) :
    a.Restamps c i := by
  refine ⟨fun h => next.1 (first.1 h), fun r h => ?_⟩
  obtain ⟨q, hq, same, unstamped⟩ := first.2 r h
  obtain ⟨q', hq', same', unstamped'⟩ := next.2 q hq
  refine ⟨q', hq', ?_, fun bare => unstamped' (unstamped bare)⟩
  rw [same'.trans (by rw [same])]

theorem Sequencer.releaseStamp_restamps (a : Sequencer) (n : Nat) (i : Slot) : a.Restamps (a.releaseStamp n) i := by
  have table : (a.releaseStamp n).table[i] =
      (a.table[i]).map fun r => { r with stamp := r.stamp.map fun m => if n < m then m - 1 else m } := by
    simp [Sequencer.releaseStamp]
  refine ⟨fun h => by rw [table, h]; rfl, fun r h => ⟨_, by rw [table, h]; rfl, rfl, fun unstamped => ?_⟩⟩
  simp [unstamped]

/-- The record of a stop, held off (R131, R142). -/
def AuxRecord.heldOff (r : AuxRecord) (target : AuxState) (want : Bool) : AuxRecord :=
  { r with
    state := target, want := want, inrush := .stopped, onTimer := .stopped, runTimer := .stopped, stamp := none
    offInhibit := if r.config.tOffMin = 0 then .stopped else .running (r.config.tOffMin * 1000) }

/-- The record that leaves COOLDOWN or SHED (R132). -/
def AuxRecord.offExit (r : AuxRecord) : AuxRecord :=
  match r.state with
  | .cooldown => if r.want then r.toQueued else r.toIdle false
  | .shed => if r.config.autoRestart && r.want then r.toQueued else r.toIdle false
  | _ => r

/-- The record that a stop leaves in its slot (R128, R131, R132, R142). -/
def AuxRecord.stopped (r : AuxRecord) (target : AuxState) (want : Bool) : AuxRecord :=
  if r.config.tOffMin = 0 then (r.heldOff target want).offExit else r.heldOff target want

section
variable (a : Sequencer) (i : Slot) (r : AuxRecord)

theorem Sequencer.offExit_self (h : a.table[i] = some r) : (a.offExit i r).table[i] = some r.offExit := by
  unfold Sequencer.offExit AuxRecord.offExit
  cases r.state
  case cooldown => dsimp only; split <;> simp only [Sequencer.join_table, Sequencer.put_self]
  case shed => dsimp only; split <;> simp only [Sequencer.join_table, Sequencer.put_self]
  all_goals exact h

theorem Sequencer.offExit_other {j : Slot} (other : j ≠ i) : (a.offExit i r).table[j] = a.table[j] := by
  unfold Sequencer.offExit
  split
  · split <;> simp only [Sequencer.join_table, a.put_other i _ other]
  · split <;> simp only [Sequencer.join_table, a.put_other i _ other]
  · rfl

/-- What a stop and an exit leave of the sequencer besides its table and its queue. -/
theorem Sequencer.offExit_rest : (a.offExit i r).settings = a.settings ∧ (a.offExit i r).starting = a.starting ∧
    (a.offExit i r).shortfallCount = a.shortfallCount ∧ (a.offExit i r).essentialShort = a.essentialShort := by
  unfold Sequencer.offExit Sequencer.join
  repeat' split
  all_goals exact ⟨rfl, rfl, rfl, rfl⟩

variable (target : AuxState) (want : Bool)

/-- The sequencer with the stamp of a stopping record released and its slot freed (R130, R131). -/
def Sequencer.released : Sequencer :=
  let freed : Sequencer := { a with starting := if a.starting = some i then none else a.starting }
  match r.stamp with
  | some n => freed.releaseStamp n
  | none => freed

theorem Sequencer.released_restamps (j : Slot) : a.Restamps (a.released i r) j := by
  unfold Sequencer.released
  cases r.stamp
  · exact .of_eq rfl
  · exact .trans (.of_eq rfl) (Sequencer.releaseStamp_restamps _ _ _)

theorem Sequencer.released_rest : (a.released i r).settings = a.settings ∧
    (a.released i r).starting = (if a.starting = some i then none else a.starting) ∧
    (a.released i r).shortfallCount = a.shortfallCount ∧ (a.released i r).essentialShort = a.essentialShort := by
  unfold Sequencer.released
  cases r.stamp <;> exact ⟨rfl, rfl, rfl, rfl⟩

theorem Sequencer.stopTo_eq : a.stopTo i r target want =
    let held := (a.released i r).put i (r.heldOff target want)
    if r.config.tOffMin = 0 then held.offExit i (r.heldOff target want) else held := rfl

theorem Sequencer.stopTo_self : (a.stopTo i r target want).table[i] = some (r.stopped target want) := by
  rw [a.stopTo_eq]
  unfold AuxRecord.stopped
  split
  · exact Sequencer.offExit_self _ _ _ (Sequencer.put_self _ _ _)
  · exact Sequencer.put_self _ _ _

/-- A stop renumbers the stamps of the other records and changes nothing else of them (R130). -/
theorem Sequencer.stopTo_restamps {j : Slot} (other : j ≠ i) : a.Restamps (a.stopTo i r target want) j := by
  refine (a.released_restamps i r j).trans (.of_eq ?_)
  rw [a.stopTo_eq]
  split
  · rw [Sequencer.offExit_other _ _ _ other, Sequencer.put_other _ _ _ other]
  · rw [Sequencer.put_other _ _ _ other]

theorem Sequencer.stopTo_rest : (a.stopTo i r target want).settings = a.settings ∧
    (a.stopTo i r target want).starting = (if a.starting = some i then none else a.starting) ∧
    (a.stopTo i r target want).shortfallCount = a.shortfallCount ∧
    (a.stopTo i r target want).essentialShort = a.essentialShort := by
  obtain ⟨settings, starting, count, short⟩ := a.released_rest i r
  rw [a.stopTo_eq]
  split
  · obtain ⟨settings', starting', count', short'⟩ :=
      ((a.released i r).put i (r.heldOff target want)).offExit_rest i (r.heldOff target want)
    exact ⟨settings'.trans settings, starting'.trans starting, count'.trans count, short'.trans short⟩
  · exact ⟨settings, starting, count, short⟩

/-- A stopped record is off (R136). -/
theorem AuxRecord.stopped_isOn (off : target = .cooldown ∨ target = .shed) : (r.stopped target want).isOn = false := by
  unfold AuxRecord.stopped AuxRecord.offExit AuxRecord.heldOff
  obtain rfl | rfl := off <;> repeat' split
  all_goals simp_all [AuxRecord.isOn, AuxRecord.toQueued, AuxRecord.toIdle]

end

/-- A stop of a record that is on changes the orders, and so is told to the AUXILIARY ports (R136). -/
theorem State.setAux_stopTo (s : State) (i : Slot) (r : AuxRecord) (target : AuxState) (want : Bool)
    (held : s.aux.table[i] = some r) (on : r.isOn = true) (off : target = .cooldown ∨ target = .shed) :
    s.setAux (s.aux.stopTo i r target want) =
      ({ s with aux := s.aux.stopTo i r target want } : State).notify
        (.auxOrders (s.aux.stopTo i r target want).orders) := by
  have was : s.aux.orders[i] = true := by
    simp only [AuxRecord.isOn, Bool.or_eq_true, beq_iff_eq] at on
    exact (s.aux.orders_iff i).2 ⟨r, held, on⟩
  have is : ¬(s.aux.stopTo i r target want).orders[i] = true := by
    rw [Sequencer.orders_iff, Sequencer.stopTo_self]
    rintro ⟨q, same, state⟩
    cases same
    have off := r.stopped_isOn target want off
    obtain state | state := state <;> simp [AuxRecord.isOn, state] at off
  have changed : (s.aux.stopTo i r target want).orders ≠ s.aux.orders := fun same => is (by rw [same]; exact was)
  exact if_neg changed

/-! ## AUX_START and AUX_STOP (R127, R128) -/

/-- A request of an auxiliary controller reaches the sequencer from an AUXILIARY port and is refused to every other role. -/
theorem State.actRequest_of_auxiliary {s : State} {p : PortId} (h : s.Hears p) (kind tag : Byte) (take : State → Answer)
    (hk : kind = 0x18 ∨ kind = 0x19) :
    (s.role p = .auxiliary → s.actRequest p kind tag take =
      .next ((take (s.hunt p)).state.answered p kind tag (take (s.hunt p)).code (take (s.hunt p)).content)) ∧
    (s.role p ≠ .auxiliary → s.actRequest p kind tag take = .next ((s.hunt p).answered p kind tag .roleRefused)) := by
  have permits : (s.role p).permits kind = (s.role p == .auxiliary) := by
    obtain rfl | rfl := hk <;> simp [Role.permits]
  exact ⟨fun own => s.actRequest_of_takes p kind tag take h (by rw [permits, own]; rfl),
    fun other => s.actRequest_of_refused p kind tag take h (by simp [permits, other])⟩

section
variable (s : State) (i : Slot) (r : AuxRecord)

/-- A record that is off is replaced by one that is off without a word to the ports (R136). -/
theorem State.setAux_put {q : AuxRecord} (held : s.aux.table[i] = some r) (was : r.isOn = false) (is : q.isOn = false) :
    s.setAux (s.aux.put i q) = { s with aux := s.aux.put i q } :=
  s.setAux_same_orders _ (s.aux.put_orders i q (by rw [held, is]; exact was))

/-- AUX_START by the record's state (R127). -/
theorem State.startAux_table (held : s.aux.table[i] = some r) :
    let wanted : AuxRecord := { r with want := true }
    (r.state = .idle → s.startAux i r = State.ok { s with aux :=
      (s.aux.put i { wanted with state := .queued, offInhibit := .stopped }).join i }) ∧
    (r.state = .cooldown → r.want = false → s.startAux i r = ⟨{ s with aux := s.aux.put i wanted }, .deferred, .none⟩) ∧
    (r.state = .cooldown → r.want = true → s.startAux i r = s.refuse .already) ∧
    (r.state = .queued ∨ r.state = .starting ∨ r.state = .running → s.startAux i r = s.refuse .already) ∧
    (r.state = .shed → r.config.autoRestart = false → s.startAux i r = s.refuse .busy) ∧
    (r.state = .shed → r.config.autoRestart = true → r.want = false →
      s.startAux i r = ⟨{ s with aux := s.aux.put i wanted }, .deferred, .none⟩) ∧
    (r.state = .shed → r.config.autoRestart = true → r.want = true → s.startAux i r = s.refuse .already) := by
  obtain ⟨config, state, want, inrush, onTimer, runTimer, offInhibit, stamp, stalled, pending⟩ := r
  refine ⟨?_, ?_, ?_, ?_, ?_, ?_, ?_⟩
  · rintro ⟨⟩
    have same := s.aux.put_orders i
      ⟨config, .queued, true, inrush, onTimer, runTimer, .stopped, stamp, stalled, pending⟩ (by rw [held]; rfl)
    exact congrArg State.ok (s.setAux_same_orders _ ((Sequencer.join_orders _ i).trans same))
  · rintro ⟨⟩ ⟨⟩
    exact congrArg (fun t => ({ state := t, code := .deferred } : Answer)) (s.setAux_put
      (q := ⟨config, .cooldown, true, inrush, onTimer, runTimer, offInhibit, stamp, stalled, pending⟩) i _ held rfl rfl)
  · rintro ⟨⟩ ⟨⟩
    rfl
  · rintro (⟨⟨⟩⟩ | ⟨⟨⟩⟩ | ⟨⟨⟩⟩) <;> rfl
  · rintro ⟨⟩ auto
    exact if_pos (by rw [auto]; rfl)
  · rintro ⟨⟩ auto ⟨⟩
    refine (if_neg (by rw [auto]; exact Bool.false_ne_true)).trans ?_
    exact congrArg (fun t => ({ state := t, code := .deferred } : Answer)) (s.setAux_put
      (q := ⟨config, .shed, true, inrush, onTimer, runTimer, offInhibit, stamp, stalled, pending⟩) i _ held rfl rfl)
  · rintro ⟨⟩ auto ⟨⟩
    exact (if_neg (by rw [auto]; exact Bool.false_ne_true))

/-- AUX_STOP by the record's state (R128). -/
theorem State.stopAux_table (held : s.aux.table[i] = some r) :
    (r.state = .idle → s.stopAux i r = s.refuse .already) ∧
    (r.state = .cooldown ∨ r.state = .shed → r.want = false → s.stopAux i r = s.refuse .already) ∧
    (r.state = .cooldown ∨ r.state = .shed → r.want = true →
      s.stopAux i r = State.ok { s with aux := s.aux.put i { r with want := false } }) ∧
    (r.state = .queued → s.stopAux i r = State.ok { s with aux := (s.aux.leave i).put i (r.toIdle false) }) ∧
    (r.state = .starting ∨ r.state = .running → s.stopAux i r =
      State.ok (({ s with aux := s.aux.stopTo i r .cooldown false } : State).notify
        (.auxOrders (s.aux.stopTo i r .cooldown false).orders))) := by
  obtain ⟨config, state, want, inrush, onTimer, runTimer, offInhibit, stamp, stalled, pending⟩ := r
  refine ⟨?_, ?_, ?_, ?_, ?_⟩
  · rintro ⟨⟩
    rfl
  · rintro (⟨⟨⟩⟩ | ⟨⟨⟩⟩) ⟨⟩ <;> rfl
  · rintro (⟨⟨⟩⟩ | ⟨⟨⟩⟩) ⟨⟩ <;> exact congrArg State.ok (s.setAux_put i _ held rfl rfl)
  · rintro ⟨⟩
    have same := (s.aux.leave i).put_orders i
      (AuxRecord.toIdle ⟨config, .queued, want, inrush, onTimer, runTimer, offInhibit, stamp, stalled, pending⟩ false)
      (by rw [Sequencer.leave_table, held]; rfl)
    exact congrArg State.ok (s.setAux_same_orders _ (same.trans (Sequencer.leave_orders _ i)))
  · rintro (⟨⟨⟩⟩ | ⟨⟨⟩⟩) <;> exact congrArg State.ok (s.setAux_stopTo i _ .cooldown false held rfl (.inl rfl))

end

/-- Settles O49: the two requests by the record's state, the places of the queue, the totals as sums and the orders. -/
theorem auxStartAndStopActByState : Obligations.AuxStartAndStopActByState := by
  refine ⟨fun p tag slot s hears => ?_, fun p tag slot s hears => ?_,
    ⟨fun a i x y => a.join_eq i x y, fun a i x y => a.leave_eq i x y⟩, fun a => ?_⟩
  · intro h a reply
    obtain ⟨own, other⟩ := State.actRequest_of_auxiliary hears 0x18 tag (answerAuxStart slot) (.inl rfl)
    have absent (unnamed : a.named slot = none) (role : s.role p = .auxiliary) : reply h .noSuch := by
      have answer : answerAuxStart slot h = h.refuse .noSuch := by
        simp only [answerAuxStart]
        rw [show h.aux.named slot = none from unnamed]
      exact (own role).trans (by rw [answer]; rfl)
    refine ⟨other, fun role => ⟨fun above => absent (a.named_above slot above) role, fun i same => ?_⟩⟩
    refine ⟨fun empty => absent (by rw [a.named_eq slot i same, empty]; rfl) role, fun r held => ?_⟩
    have answer : answerAuxStart slot h = h.startAux i r := by
      simp only [answerAuxStart]
      rw [show h.aux.named slot = some (i, r) from (a.named_eq slot i same).trans (by rw [held]; rfl)]
    have answered {x : Answer} (hx : h.startAux i r = x) :
        exec (.auxStart p tag slot) s = .next (x.state.answered p 0x18 tag x.code x.content) :=
      (own role).trans (by rw [answer, hx])
    obtain ⟨idle, rests, waits, on, bound, free, already⟩ := h.startAux_table i r held
    exact ⟨fun state => answered (idle state), fun state want => answered (rests state want),
      fun state want => answered (waits state want), fun state => answered (on state),
      fun state auto => answered (bound state auto), fun state auto want => answered (free state auto want),
      fun state auto want => answered (already state auto want)⟩
  · intro h a reply
    obtain ⟨own, other⟩ := State.actRequest_of_auxiliary hears 0x19 tag (answerAuxStop slot) (.inr rfl)
    have absent (unnamed : a.named slot = none) (role : s.role p = .auxiliary) : reply h .noSuch := by
      have answer : answerAuxStop slot h = h.refuse .noSuch := by
        simp only [answerAuxStop]
        rw [show h.aux.named slot = none from unnamed]
      exact (own role).trans (by rw [answer]; rfl)
    refine ⟨other, fun role => ⟨fun above => absent (a.named_above slot above) role, fun i same => ?_⟩⟩
    refine ⟨fun empty => absent (by rw [a.named_eq slot i same, empty]; rfl) role, fun r held => ?_⟩
    have answer : answerAuxStop slot h = h.stopAux i r := by
      simp only [answerAuxStop]
      rw [show h.aux.named slot = some (i, r) from (a.named_eq slot i same).trans (by rw [held]; rfl)]
    have answered {x : Answer} (hx : h.stopAux i r = x) :
        exec (.auxStop p tag slot) s = .next (x.state.answered p 0x19 tag x.code x.content) :=
      (own role).trans (by rw [answer, hx])
    obtain ⟨idle, unwanted, waits, queued, on⟩ := h.stopAux_table i r held
    exact ⟨fun state => answered (idle state), fun state want => answered (unwanted state want),
      fun state want => answered (waits state want), fun state => answered (queued state),
      fun state => answered (on state)⟩
  · intro sum
    rw [a.totals_eq]
    exact ⟨congrArg a.sum (funext AuxRecord.demand_dEss), congrArg a.sum (funext AuxRecord.demand_dCprot),
      congrArg a.sum (funext AuxRecord.demand_dCfree), a.orders_iff⟩

end Sys2Proof.Machine

namespace Sys2Proof.Machine

/-! ## Shedding (R141 to R143) -/

/-- A stop writes over the stamp. -/
theorem AuxRecord.Restamped.stopped_eq {q r : AuxRecord} (h : q.Restamped r) (target : AuxState) (want : Bool) :
    q.stopped target want = r.stopped target want := by
  rw [h.1]
  rfl

theorem AuxRecord.Restamped.want_eq {q r : AuxRecord} (h : q.Restamped r) : q.want = r.want := by rw [h.1]

/-- A stopped record has no stamp (R131). -/
theorem AuxRecord.stopped_stamp (r : AuxRecord) (target : AuxState) (want : Bool) :
    (r.stopped target want).stamp = none := by
  unfold AuxRecord.stopped AuxRecord.offExit
  repeat' split
  all_goals rfl

theorem AuxRecord.Restamped.eq_of_unstamped {q r : AuxRecord} (h : q.Restamped r) (unstamped : r.stamp = none) : q = r := by
  rw [h.1, h.2 unstamped, ← unstamped]

theorem Sequencer.Restamps.isSome {a b : Sequencer} {i : Slot} (h : a.Restamps b i) (held : (a.table[i]).isSome) :
    (b.table[i]).isSome := by
  obtain ⟨r, hr⟩ := Option.isSome_iff_exists.1 held
  obtain ⟨q, hq, -⟩ := h.2 r hr
  exact Option.isSome_iff_exists.2 ⟨q, hq⟩

theorem Sequencer.stopTo_isSome (a : Sequencer) (i : Slot) (r : AuxRecord) (target : AuxState) (want : Bool) {j : Slot}
    (held : (a.table[j]).isSome) : ((a.stopTo i r target want).table[j]).isSome := by
  by_cases same : j = i
  · subst same
    rw [Sequencer.stopTo_self]
    rfl
  · exact (a.stopTo_restamps i r target want same).isSome held

theorem Sequencer.shedAll_cons {a : Sequencer} {i : Slot} {r : AuxRecord} (l : List Slot) (held : a.table[i] = some r) :
    a.shedAll (i :: l) = (a.stopTo i r .shed r.want).shedAll l := by
  rw [Sequencer.shedAll]
  split
  · next q other =>
    cases held.symm.trans other
    rfl
  · next absent => exact absurd (held.symm.trans absent) (by simp)

theorem Sequencer.shedAll_cons_absent {a : Sequencer} {i : Slot} (l : List Slot) (absent : a.table[i] = none) :
    a.shedAll (i :: l) = a.shedAll l := by
  rw [Sequencer.shedAll]
  split
  · next q other => exact absurd (absent.symm.trans other) (by simp)
  · rfl

/-- Shedding some slots leaves the record of any other but for its stamp (R130, R142). -/
theorem Sequencer.shedAll_restamps (l : List Slot) (a : Sequencer) {i : Slot} (other : i ∉ l) :
    a.Restamps (a.shedAll l) i := by
  induction l generalizing a with
  | nil => exact .of_eq rfl
  | cons j l ih =>
    obtain ⟨apart, other⟩ := not_or.1 (mt List.mem_cons.2 other)
    cases held : a.table[j] with
    | none =>
      rw [Sequencer.shedAll_cons_absent l held]
      exact ih a other
    | some r =>
      rw [Sequencer.shedAll_cons l held]
      exact (a.stopTo_restamps j r .shed r.want apart).trans (ih _ other)

/-- Shedding some slots stops the record of each (R142). -/
theorem Sequencer.shedAll_stopped {l : List Slot} (distinct : l.Nodup) (a : Sequencer) {i : Slot} (listed : i ∈ l)
    {r : AuxRecord} (held : a.table[i] = some r) : (a.shedAll l).table[i] = some (r.stopped .shed r.want) := by
  induction l generalizing a r with
  | nil => cases listed
  | cons j l ih =>
    obtain ⟨absent, distinct⟩ := List.nodup_cons.1 distinct
    by_cases same : i = j
    · subst same
      rw [Sequencer.shedAll_cons l held]
      obtain ⟨q, hq, restamped⟩ := (Sequencer.shedAll_restamps l (a.stopTo i r .shed r.want) absent).2 _
        (a.stopTo_self i r .shed r.want)
      rw [hq, restamped.eq_of_unstamped (r.stopped_stamp .shed r.want)]
    · have listed : i ∈ l := (List.mem_cons.1 listed).resolve_left same
      cases first : a.table[j] with
      | none =>
        rw [Sequencer.shedAll_cons_absent l first]
        exact ih distinct a listed held
      | some r' =>
        rw [Sequencer.shedAll_cons l first]
        obtain ⟨q, hq, restamped⟩ := (a.stopTo_restamps j r' .shed r'.want same).2 r held
        rw [ih distinct _ listed hq, restamped.want_eq, restamped.stopped_eq]

/-- What shedding leaves of the sequencer besides its table and its queue. -/
theorem Sequencer.shedAll_rest (l : List Slot) (a : Sequencer) : (a.shedAll l).settings = a.settings ∧
    (a.shedAll l).shortfallCount = a.shortfallCount ∧ (a.shedAll l).essentialShort = a.essentialShort ∧
    (a.starting = none → (a.shedAll l).starting = none) := by
  induction l generalizing a with
  | nil => exact ⟨rfl, rfl, rfl, id⟩
  | cons j l ih =>
    cases held : a.table[j] with
    | none =>
      rw [Sequencer.shedAll_cons_absent l held]
      exact ih a
    | some r =>
      rw [Sequencer.shedAll_cons l held]
      obtain ⟨settings, count, short, free⟩ := ih (a.stopTo j r .shed r.want)
      obtain ⟨settings', starting', count', short'⟩ := a.stopTo_rest j r .shed r.want
      exact ⟨settings.trans settings', count.trans count', short.trans short',
        fun unset => free (starting'.trans (by simp [unset]))⟩

/-- Shedding present records frees a starting slot that holds one of them, and no other (R142). -/
theorem Sequencer.shedAll_starting (l : List Slot) (a : Sequencer) (present : ∀ j ∈ l, (a.table[j]).isSome) {i : Slot}
    (held : a.starting = some i) : (a.shedAll l).starting = if i ∈ l then none else some i := by
  induction l generalizing a with
  | nil => simpa [Sequencer.shedAll] using held
  | cons j l ih =>
    obtain ⟨r, hr⟩ := Option.isSome_iff_exists.1 (present j (by simp))
    rw [Sequencer.shedAll_cons l hr]
    obtain ⟨-, starting, -, -⟩ := a.stopTo_rest j r .shed r.want
    rw [held] at starting
    by_cases same : i = j
    · subst same
      obtain ⟨-, -, -, free⟩ := Sequencer.shedAll_rest l (a.stopTo i r .shed r.want)
      rw [if_pos List.mem_cons_self]
      exact free (starting.trans (if_pos rfl))
    · have present' : ∀ k ∈ l, ((a.stopTo j r .shed r.want).table[k]).isSome := fun k hk =>
        a.stopTo_isSome j r .shed r.want (present k (by simp [hk]))
      rw [ih _ present' (starting.trans (if_neg (by simpa using same)))]
      simp [same]

section
variable (a : Sequencer) (keep : AuxRecord → Bool)

theorem Sequencer.mem_byStamp (i : Slot) : i ∈ a.byStamp keep ↔ ∃ r, a.table[i] = some r ∧ keep r = true := by
  simp only [Sequencer.byStamp, List.mem_insertionSort, List.mem_filter, slots, List.mem_finRange, true_and]
  cases a.table[i] <;> simp

theorem Sequencer.byStamp_nodup : (a.byStamp keep).Nodup :=
  (List.perm_insertionSort _ _).nodup_iff.2 ((List.nodup_finRange 12).filter _)

/-- A COMFORT record in STARTING or RUNNING is what cut shedding takes (R143). -/
theorem AuxRecord.comfortOn_iff (r : AuxRecord) : r.comfortOn = true ↔
    r.config.tier = .comfort ∧ (r.state = .starting ∨ r.state = .running) := by
  simp [AuxRecord.comfortOn, AuxRecord.isOn]

/-- Cut shedding leaves every record that it does not take, but for its stamp (R143). -/
theorem Sequencer.cutShed_kept {i : Slot} {r : AuxRecord} (held : a.table[i] = some r) (spared : r.comfortOn ≠ true) :
    ∃ q, a.cutShed.table[i] = some q ∧ q = { r with stamp := q.stamp } := by
  have other : i ∉ a.byStamp AuxRecord.comfortOn := by
    rw [Sequencer.mem_byStamp]
    rintro ⟨q, hq, taken⟩
    cases held.symm.trans hq
    exact spared taken
  obtain ⟨q, hq, same, -⟩ := (Sequencer.shedAll_restamps _ a other).2 r held
  exact ⟨q, hq, same⟩

theorem Sequencer.cutShed_absent {i : Slot} (absent : a.table[i] = none) : a.cutShed.table[i] = none := by
  have other : i ∉ a.byStamp AuxRecord.comfortOn := by
    rw [Sequencer.mem_byStamp]
    rintro ⟨q, hq, -⟩
    cases absent.symm.trans hq
  exact (Sequencer.shedAll_restamps _ a other).1 absent

/-- Cut shedding stops every record that it takes (R143). -/
theorem Sequencer.cutShed_taken {i : Slot} {r : AuxRecord} (held : a.table[i] = some r) (taken : r.comfortOn = true) :
    a.cutShed.table[i] = some (r.stopped .shed r.want) :=
  Sequencer.shedAll_stopped (a.byStamp_nodup _) a ((a.mem_byStamp _ i).2 ⟨r, held, taken⟩) held

theorem Sequencer.cutShed_starting {i : Slot} (starting : a.starting = some i) {r : AuxRecord} (held : a.table[i] = some r) :
    a.cutShed.starting = if r.comfortOn = true then none else some i := by
  have present : ∀ j ∈ a.byStamp AuxRecord.comfortOn, (a.table[j]).isSome := fun j hj => by
    obtain ⟨q, hq, -⟩ := (a.mem_byStamp _ j).1 hj
    rw [hq]
    rfl
  have listed : i ∈ a.byStamp AuxRecord.comfortOn ↔ r.comfortOn = true := by
    rw [Sequencer.mem_byStamp]
    exact ⟨fun ⟨q, hq, taken⟩ => by cases held.symm.trans hq; exact taken, fun taken => ⟨r, held, taken⟩⟩
  refine (Sequencer.shedAll_starting _ a present starting).trans ?_
  simp only [listed]

end

/-- A shed record, held off or gone on at once (R132, R142). -/
theorem AuxRecord.stopped_shed (r : AuxRecord) : let q := r.stopped .shed r.want
    q.inrush = .stopped ∧ q.onTimer = .stopped ∧ q.runTimer = .stopped ∧
      (0 < r.config.tOffMin → q.state = .shed ∧ q.want = r.want ∧ q.config = r.config ∧
        q.offInhibit = .running (r.config.tOffMin * 1000)) ∧
      (r.config.tOffMin = 0 → q.offInhibit = .stopped ∧
        q.state = if r.want = true ∧ r.config.autoRestart = true then .queued else .idle) := by
  by_cases off : r.config.tOffMin = 0
  · have exits : r.stopped .shed r.want = if r.config.autoRestart && r.want then (r.heldOff .shed r.want).toQueued
        else (r.heldOff .shed r.want).toIdle false := if_pos off
    by_cases again : r.config.autoRestart && r.want
    · rw [exits, if_pos again, if_pos (by simpa [and_comm] using again)]
      exact ⟨rfl, rfl, rfl, fun held => absurd off held.ne', fun _ => ⟨rfl, rfl⟩⟩
    · rw [exits, if_neg again, if_neg (by simpa [and_comm] using again)]
      exact ⟨rfl, rfl, rfl, fun held => absurd off held.ne', fun _ => ⟨rfl, rfl⟩⟩
  · have held : r.stopped .shed r.want = r.heldOff .shed r.want := if_neg off
    rw [held]
    exact ⟨rfl, rfl, rfl, fun _ => ⟨rfl, rfl, rfl, if_neg off⟩, fun zero => absurd zero off⟩

/-! ## The plan check's findings (R159) -/

/-- Findings in ascending order of code and, under one code, of subject port (R159). -/
def Finding.Before (f g : Finding) : Prop :=
  f.code < g.code ∨ (f.code = g.code ∧ ∃ p q, f.subject = some p ∧ g.subject = some q ∧ p < q)

/-- Findings in their order, none with a code below `n`. -/
def Ascending (n : Nat) (l : List Finding) : Prop := l.Pairwise Finding.Before ∧ ∀ f ∈ l, n ≤ f.code

theorem Ascending.nil (n : Nat) : Ascending n [] := ⟨.nil, by simp⟩

theorem mem_findingIf (cls : FindingClass) (n : Nat) (b : Bool) (f : Finding) :
    f ∈ findingIf cls n b ↔ b = true ∧ f = ⟨cls, n, none⟩ := by
  cases b <;> simp [findingIf]

/-- A finding ahead of those with higher codes. -/
theorem Ascending.findingIf {n m : Nat} {l : List Finding} (later : Ascending m l) (higher : n < m) (cls : FindingClass)
    (b : Bool) : Ascending n (findingIf cls n b ++ l) := by
  obtain ⟨ordered, above⟩ := later
  refine ⟨List.pairwise_append.2 ⟨?_, ordered, fun f hf g hg => .inl ?_⟩, fun f hf => ?_⟩
  · cases b <;> simp [Sys2Proof.Machine.findingIf]
  · have := above g hg
    obtain ⟨-, rfl⟩ := (mem_findingIf cls n b f).1 hf
    exact higher.trans_le this
  · rcases List.mem_append.1 hf with hf | hf
    · obtain ⟨-, rfl⟩ := (mem_findingIf cls n b f).1 hf
      exact le_rfl
    · exact higher.le.trans (above f hf)

/-- The ports of a role after the first. -/
theorem mem_drop_one {l : List PortId} (ordered : l.Pairwise (· < ·)) (p : PortId) :
    p ∈ l.drop 1 ↔ p ∈ l ∧ ∃ q, q < p ∧ q ∈ l := by
  cases l with
  | nil => simp
  | cons x l =>
    obtain ⟨first, -⟩ := List.pairwise_cons.1 ordered
    constructor
    · exact fun hp => ⟨List.mem_cons_of_mem x hp, x, first p hp, List.mem_cons_self⟩
    · rintro ⟨hp, q, below, hq⟩
      rcases List.mem_cons.1 hp with rfl | hp
      · rcases List.mem_cons.1 hq with rfl | hq
        · exact absurd below (lt_irrefl _)
        · exact absurd below (first q hq).not_gt
      · exact hp

section
variable (s : State) (role : Role)

theorem State.mem_portsOf (p : PortId) : p ∈ s.portsOf role ↔ s.role p = role := by
  simp [State.portsOf]

theorem State.portsOf_ordered : (s.portsOf role).Pairwise (· < ·) := (List.pairwise_lt_finRange 4).filter _

theorem State.portsOf_isEmpty : (s.portsOf role).isEmpty = true ↔ ∀ p, s.role p ≠ role := by
  simp [State.portsOf]

/-- One finding for each port of a role that has one of its role below it (R159). -/
theorem State.mem_findingPerExtra (n : Nat) (f : Finding) : f ∈ findingPerExtra n (s.portsOf role) ↔
    ∃ p, f = ⟨.a, n, some p⟩ ∧ s.role p = role ∧ ∃ q, q < p ∧ s.role q = role := by
  simp only [findingPerExtra, List.mem_map, mem_drop_one (s.portsOf_ordered role), State.mem_portsOf]
  exact ⟨fun ⟨p, h, e⟩ => ⟨p, e.symm, h⟩, fun ⟨p, e, h⟩ => ⟨p, h, e.symm⟩⟩

/-- Of the findings with a subject, those of one code name the ports of its role after the first (R159). -/
theorem State.some_mem_findingPerExtra (n : Nat) (cls : FindingClass) (code : Nat) (p : PortId) :
    ⟨cls, code, some p⟩ ∈ findingPerExtra n (s.portsOf role) ↔
      cls = .a ∧ code = n ∧ s.role p = role ∧ ∃ q, q < p ∧ s.role q = role := by
  rw [State.mem_findingPerExtra]
  constructor
  · rintro ⟨q, same, h⟩
    cases same
    exact ⟨rfl, rfl, h⟩
  · rintro ⟨rfl, rfl, h⟩
    exact ⟨p, rfl, h⟩

theorem State.none_notMem_findingPerExtra (n : Nat) (cls : FindingClass) (code : Nat) :
    ⟨cls, code, none⟩ ∈ findingPerExtra n (s.portsOf role) ↔ False := by
  rw [State.mem_findingPerExtra]
  exact ⟨fun ⟨_, same, _⟩ => (by cases same), False.elim⟩

/-- The findings of the ports of a role after the first, ahead of those with higher codes. -/
theorem Ascending.findingPerExtra {n m : Nat} {l : List Finding} (later : Ascending m l) (higher : n < m) :
    Ascending n (findingPerExtra n (s.portsOf role) ++ l) := by
  obtain ⟨ordered, above⟩ := later
  refine ⟨List.pairwise_append.2 ⟨?_, ordered, fun f hf g hg => .inl ?_⟩, fun f hf => ?_⟩
  · refine List.pairwise_map.2 (((s.portsOf_ordered role).drop).imp fun {p q} below => ?_)
    exact .inr ⟨rfl, p, q, rfl, rfl, below⟩
  · have := above g hg
    obtain ⟨p, rfl, -⟩ := (s.mem_findingPerExtra role n f).1 hf
    exact higher.trans_le this
  · rcases List.mem_append.1 hf with hf | hf
    · obtain ⟨p, rfl, -⟩ := (s.mem_findingPerExtra role n f).1 hf
      exact le_rfl
    · exact higher.le.trans (above f hf)

/-- The finding that a role has no port stands alone under its code: it has no port to name. -/
theorem Ascending.findingPorts {n m : Nat} {l : List Finding} (later : Ascending m l) (higher : n < m) :
    Ascending n (Sys2Proof.Machine.findingIf .a n (s.portsOf role).isEmpty ++
      (Sys2Proof.Machine.findingPerExtra n (s.portsOf role) ++ l)) := by
  cases empty : (s.portsOf role).isEmpty with
  | true =>
    rw [List.isEmpty_iff.1 empty]
    exact later.findingIf higher .a true
  | false => exact later.findingPerExtra s role higher

end

/-- The I_run of the ESSENTIAL records, as a sum (R159). -/
theorem Sequencer.essentialRunning_eq (a : Sequencer) : a.essentialRunning =
    ((slots.filter fun i => (a.table[i]).any fun r => r.config.tier == .essential).map
      fun i => ((a.table[i]).map fun r => r.config.iRun).getD 0).sum := by
  have fold : ∀ (l : List Slot) (n : Nat), l.foldl (fun n i => match a.table[i] with
      | some r => if r.config.tier = .essential then n + r.config.iRun else n
      | none => n) n = n + ((l.filter fun i => (a.table[i]).any fun r => r.config.tier == .essential).map
        fun i => ((a.table[i]).map fun r => r.config.iRun).getD 0).sum := by
    intro l
    induction l with
    | nil => intro n; rfl
    | cons i l ih =>
      intro n
      rw [List.foldl_cons, ih]
      cases held : a.table[i] with
      | none => rw [List.filter_cons_of_neg (by rw [held]; exact Bool.false_ne_true)]
      | some r =>
        by_cases tier : r.config.tier = .essential
        · rw [List.filter_cons_of_pos (by rw [held]; simpa using tier), List.map_cons, List.sum_cons, held]
          simp only [if_pos tier]
          exact Nat.add_assoc _ _ _
        · rw [List.filter_cons_of_neg (by rw [held]; simpa using tier)]
          simp only [if_neg tier]
  exact (fold slots 0).trans (Nat.zero_add _)

section
variable (s : State)

/-- The findings of all three classes are in ascending order (R159). -/
theorem State.findings_ascending : Ascending 1 (s.findingsA ++ s.findingsB ++ s.findingsC) := by
  simp only [State.findingsA, State.findingsB, State.findingsC, List.append_assoc]
  refine .findingIf ?_ (m := 2) (by decide) _ _
  refine .findingIf ?_ (m := 3) (by decide) _ _
  refine .findingIf ?_ (m := 4) (by decide) _ _
  refine .findingIf ?_ (m := 5) (by decide) _ _
  refine .findingIf ?_ (m := 6) (by decide) _ _
  refine .findingIf ?_ (m := 7) (by decide) _ _
  refine .findingPorts s _ ?_ (m := 8) (by decide)
  refine .findingPerExtra s _ ?_ (m := 9) (by decide)
  refine .findingPerExtra s _ ?_ (m := 10) (by decide)
  refine .findingIf ?_ (m := 11) (by decide) _ _
  refine .findingIf ?_ (m := 12) (by decide) _ _
  refine .findingIf ?_ (m := 13) (by decide) _ _
  refine .findingIf ?_ (m := 14) (by decide) _ _
  refine .findingIf ?_ (m := 15) (by decide) _ _
  refine .findingIf ?_ (m := 16) (by decide) _ _
  rw [← List.append_nil (findingIf _ _ _)]
  exact (Ascending.nil 17).findingIf (by decide) _ _

/-- The class A findings are those of R159's table. -/
theorem State.mem_findingsA (f : Finding) :
    let l := s.allot.line
    let b := s.allot.battery
    let c := s.contact.settings
    let another (role : Role) (p : PortId) : Prop := s.role p = role ∧ ∃ q : PortId, q < p ∧ s.role q = role
    f ∈ s.findingsA ↔ f.cls = .a ∧
      (f.subject = none ∧
          ((f.code = 1 ∧ l.vKnee ≤ l.vFloor) ∨ (f.code = 2 ∧ b.vMax ≤ b.vOvk) ∨ (f.code = 3 ∧ b.vBatLow ≤ b.vBatMin) ∨
            (f.code = 4 ∧ b.vBatFull ≤ b.vChgTaper) ∨ (f.code = 5 ∧ c.elevMax ≤ c.elevMin) ∨
            (f.code = 6 ∧ l.vFloor ≤ c.vLoss) ∨ (f.code = 7 ∧ ∀ p, s.role p ≠ .cab) ∨
            (f.code = 10 ∧ ∀ p, s.role p ≠ .traction)) ∨
        ∃ p, f.subject = some p ∧
          ((f.code = 7 ∧ another .cab p) ∨ (f.code = 8 ∧ another .traction p) ∨ (f.code = 9 ∧ another .auxiliary p))) := by
  obtain ⟨cls, code, subject⟩ := f
  simp only [State.findingsA, List.mem_append, mem_findingIf, s.portsOf_isEmpty, decide_eq_true_eq, Finding.mk.injEq]
  cases subject with
  | none =>
    simp only [s.none_notMem_findingPerExtra, reduceCtorEq, false_and, exists_false, or_false, true_and, and_true, ge_iff_le,
      and_or_left, or_assoc]
    simp only [and_left_comm, and_comm, and_assoc]
  | some p =>
    simp only [s.some_mem_findingPerExtra, reduceCtorEq, and_false, false_and, false_or, or_false, Option.some.injEq,
      exists_eq_left', exists_or, and_or_left, or_assoc]

theorem State.mem_findingsB (f : Finding) : f ∈ s.findingsB ↔ f.cls = .b ∧ f.subject = none ∧
      ((f.code = 11 ∧ s.allot.battery.iBatMax < s.aux.essentialRunning) ∨ (f.code = 12 ∧ ∀ p, s.role p ≠ .roof) ∨
        (f.code = 13 ∧ s.allot.demandSettings.cutoffFrames ≤ s.allot.demandSettings.holdFrames) ∨
        (f.code = 14 ∧ s.allot.demandSettings.odStop ≤ s.allot.demandSettings.odWarn)) := by
  obtain ⟨cls, code, subject⟩ := f
  simp only [State.findingsB, List.mem_append, mem_findingIf, s.portsOf_isEmpty, decide_eq_true_eq, Finding.mk.injEq,
    ge_iff_le, and_or_left, or_assoc]
  simp only [and_left_comm, and_comm, and_assoc]

theorem State.mem_findingsC (f : Finding) : f ∈ s.findingsC ↔ f.cls = .c ∧ f.subject = none ∧
      ((f.code = 15 ∧ s.sections.table = []) ∨ (f.code = 16 ∧ s.alarm.policy = .off)) := by
  obtain ⟨cls, code, subject⟩ := f
  simp only [State.findingsC, List.mem_append, mem_findingIf, List.isEmpty_iff, beq_iff_eq, Finding.mk.injEq, and_or_left]
  simp only [and_left_comm, and_comm, and_assoc]

end

/-! ## MODE and CHECK (R89, R143, R158, R160) -/

section
variable (s : State) (p : PortId)

theorem State.findings_hunt : (s.hunt p).findingsA = s.findingsA ∧ (s.hunt p).findingsB = s.findingsB ∧
    (s.hunt p).findingsC = s.findingsC := by
  refine ⟨State.findingsA_congr _ _ rfl rfl rfl (s.hunt_role p), ?_, rfl⟩
  simp only [State.findingsB, State.portsOf, State.hunt_role]
  rfl

theorem Router.anyStopping_iff (r : Router) : r.anyStopping = true ↔ ∃ i : Fin 16, (r.faults[i]).latch = .stopping := by
  simp only [Router.anyStopping, List.any_eq_true, Vector.mem_toList_iff, beq_iff_eq, Vector.mem_iff_getElem]
  constructor
  · rintro ⟨f, ⟨i, hi, rfl⟩, stopping⟩
    exact ⟨⟨i, hi⟩, stopping⟩
  · rintro ⟨i, stopping⟩
    exact ⟨_, ⟨i, i.isLt, rfl⟩, stopping⟩

/-- A mode cut, with the sequencer's orders and the publication told in their order (R83, R89, R136, R143). -/
theorem State.takeModeCut_eq (m : Mode) : s.takeModeCut m =
    let cut : State := { s with
      allot := { s.allot with record := s.allot.record.modeCut m, cutMark := true }, aux := s.aux.cutShed }
    let ordered := if s.aux.cutShed.orders = s.aux.orders then cut else cut.notify (.auxOrders s.aux.cutShed.orders)
    ordered.notify (.allotment (s.allot.record.modeCut m)) := by
  simp only [State.takeModeCut, State.publish, State.shedOnCut, State.setAux_allot]
  rfl

end

/-- MODE(RUN) from SETUP, by its conditions in their order (R158). -/
theorem answerModeRun_of_setup (s : State) (setup : s.router.mode = .setup) :
    (s.store.save.isSome = true → answerModeRun s = s.refuse .busy) ∧
    (s.store.save = none → s.router.anyStopping = true → answerModeRun s = s.refuse .modeRefused) ∧
    (s.store.save = none → s.router.anyStopping = false → s.findingsA ≠ [] → answerModeRun s = s.refuse .planInvalid) ∧
    (s.store.save = none → s.router.anyStopping = false → s.findingsA = [] →
      answerModeRun s = (s.changeMode .run .request).ok) := by
  simp only [answerModeRun, setup]
  refine ⟨fun save => if_pos save, fun save stopping => ?_, fun save stopping found => ?_, fun save stopping found => ?_⟩
  · simp [save, stopping]
  · simp [save, stopping, found]
  · simp [save, stopping, found]

/-- What CHECK lists at a level (R160). -/
theorem State.checkReport_eq (s : State) (n : Nat) (level : n ≤ 2) : s.checkReport n =
    { countA := s.findingsA.length, countB := s.findingsB.length, countC := s.findingsC.length
      listed := (s.findingsA ++ (if n ≤ 1 then s.findingsB else []) ++ (if n = 0 then s.findingsC else [])).take 16 } := by
  match n, level with
  | 0, _ => rfl
  | 1, _ => simp [State.checkReport]
  | 2, _ => simp [State.checkReport]

/-- Settles O58: the two requests, cut shedding slot by slot, and the findings class by class. -/
theorem modeAndCheckFollowTheirTables : Obligations.ModeAndCheckFollowTheirTables := by
  refine ⟨fun p tag b s hears => ?_, fun a => ?_, fun s => ?_⟩
  · intro h mode entered stopping
    obtain ⟨cabMode, otherMode⟩ := State.actRequest_of_cab hears 0x2E tag (answerMode b) (by decide)
    obtain ⟨cabCheck, otherCheck⟩ := State.actRequest_of_cab hears 0x2F tag (answerCheck b) (by decide)
    refine ⟨fun role => ⟨otherMode role, otherCheck role⟩, fun role => ?_⟩
    have answered {u : State} {code : ReplyCode} (hx : answerMode b h = { state := u, code := code }) : mode u code :=
      (cabMode role).trans (by rw [hx])
    have checked {x : Answer} (hx : answerCheck b h = x) :
        exec (.check p tag b) s = .next (x.state.answered p 0x2F tag x.code x.content) :=
      (cabCheck role).trans (by rw [hx])
    obtain ⟨findingsA, findingsB, findingsC⟩ := s.findings_hunt p
    have anyStopping : s.router.anyStopping = true ↔ stopping := s.router.anyStopping_iff
    refine ⟨fun above => ?_, ?_, ?_, ?_, ?_, ?_, fun above => checked (if_pos above), fun level => ?_⟩
    · have unnamed : targetOf b = none := by
        unfold targetOf
        split
        · omega
        · omega
        · rfl
      have format : answerMode b h = h.refuse .format := by simp only [answerMode, unnamed]
      exact answered format
    · rintro rfl setup
      exact answered (if_pos setup)
    · rintro rfl other r record aux cut ordered
      have left : answerMode 0 h = (h.changeMode .setup .request).ok := if_neg other
      have told : h.changeMode .setup .request =
          (ordered.notify (.allotment record)).notify (.mode .setup (some s.router.mode) .request) := by
        rw [State.changeMode, if_neg (by decide), State.takeModeCut_eq]
        rfl
      exact answered (left.trans (congrArg State.ok told))
    · rintro rfl run
      have refused : answerModeRun h = h.refuse .already := by simp only [answerModeRun, h, State.hunt_router, run]
      exact answered refused
    · rintro rfl halt
      have refused : answerModeRun h = h.refuse .modeRefused := by simp only [answerModeRun, h, State.hunt_router, halt]
      exact answered refused
    · rintro rfl setup
      have told : h.changeMode .run .request = (entered .run).notify (.mode .run (some .setup) .request) :=
        congrArg (fun left => (entered .run).notify (.mode .run (some left) .request)) setup
      obtain ⟨busy, stops, invalid, runs⟩ := answerModeRun_of_setup h setup
      refine ⟨fun save => answered (busy save), fun save stop => answered (stops save (anyStopping.2 stop)),
        fun save clear found => answered (invalid save (Bool.eq_false_iff.2 (mt anyStopping.1 clear))
          (findingsA.trans_ne found)), fun save clear clean => answered
          ((runs save (Bool.eq_false_iff.2 (mt anyStopping.1 clear)) (findingsA.trans clean)).trans
            (congrArg State.ok told))⟩
    · refine (checked (if_neg (by omega))).trans ?_
      rw [h.checkReport_eq b.toNat level, findingsA, findingsB, findingsC]
      have zero : b.toNat = 0 ↔ b = 0 := ⟨fun e => BitVec.eq_of_toNat_eq e, fun e => by rw [e]; rfl⟩
      simp only [zero]
  · intro b taken
    obtain ⟨settings, -, short, free⟩ := Sequencer.shedAll_rest (a.byStamp AuxRecord.comfortOn) a
    refine ⟨rfl, settings, short, fun i => ⟨a.cutShed_absent, fun r held => ?_⟩, fun i starting r held => ?_, free⟩
    · by_cases on : r.comfortOn = true
      · have on' : taken r := r.comfortOn_iff.1 on
        exact ⟨_, a.cutShed_taken held on, fun spared => absurd on' spared,
          fun _ => ⟨r.stopped_stamp _ _, r.stopped_shed⟩⟩
      · obtain ⟨q, hq, same⟩ := a.cutShed_kept held on
        exact ⟨q, hq, fun _ => same, fun on' => absurd (r.comfortOn_iff.2 on') on⟩
    · have slot := a.cutShed_starting starting held
      exact ⟨fun on => slot.trans (if_pos (r.comfortOn_iff.2 on)),
        fun spared => slot.trans (if_neg (mt r.comfortOn_iff.1 spared))⟩
  · intro l b c d essential current another
    refine ⟨s.mem_findingsA, fun f => ?_, s.mem_findingsC, s.findings_ascending.1⟩
    have sum : s.aux.essentialRunning = current := s.aux.essentialRunning_eq
    rw [s.mem_findingsB f, sum]

end Sys2Proof.Machine

namespace Sys2Proof.Machine

/-! ## Frame shedding leaves the essential demand (R79, R141) -/

/-- Frame shedding sheds a front part of its list (R141). -/
theorem Sequencer.shedUntil_eq (shortfall : Nat) (l : List Slot) (sum : Nat) (a : Sequencer) :
    ∃ k, a.shedUntil shortfall sum l = a.shedAll (l.take k) := by
  induction l generalizing sum a with
  | nil => exact ⟨0, rfl⟩
  | cons i l ih =>
    rw [Sequencer.shedUntil]
    split
    · exact ⟨0, rfl⟩
    · split
      · next r held =>
        obtain ⟨k, shed⟩ := ih (sum + r.config.iRun) (a.stopTo i r .shed r.want)
        exact ⟨k + 1, by rw [shed, List.take_succ_cons, Sequencer.shedAll_cons _ held]⟩
      · next absent =>
        obtain ⟨k, shed⟩ := ih sum a
        exact ⟨k + 1, by rw [shed, List.take_succ_cons, Sequencer.shedAll_cons_absent _ absent]⟩

/-- A record that is off adds nothing to the totals (R79). -/
theorem AuxRecord.demand_of_off (r : AuxRecord) (off : r.isOn = false) : r.demand = ⟨0, 0, 0⟩ := by
  simp only [AuxRecord.isOn, Bool.or_eq_false_iff, beq_eq_false_iff_ne] at off
  unfold AuxRecord.demand
  split <;> simp_all

/-- Shedding COMFORT records leaves the essential demand (R79, R142). -/
theorem Sequencer.shedAll_dEss (a : Sequencer) {l : List Slot} (distinct : l.Nodup)
    (comfort : ∀ i ∈ l, ∃ r, a.table[i] = some r ∧ r.config.tier = .comfort) :
    (a.shedAll l).totals.dEss = a.totals.dEss := by
  rw [Sequencer.totals_eq, Sequencer.totals_eq]
  refine congrArg List.sum (List.map_congr_left fun i _ => ?_)
  by_cases listed : i ∈ l
  · obtain ⟨r, held, tier⟩ := comfort i listed
    rw [Sequencer.shedAll_stopped distinct a listed held, held]
    have before : r.demand.dEss = 0 := by rw [r.demand_dEss, if_neg (by rw [tier]; decide)]
    have after : (r.stopped .shed r.want).demand.dEss = 0 := by
      rw [AuxRecord.demand_of_off _ (r.stopped_isOn _ _ (.inr rfl))]
    simp [before, after]
  · obtain ⟨absent, kept⟩ := Sequencer.shedAll_restamps l a listed
    cases held : a.table[i] with
    | none => rw [absent held]
    | some r =>
      obtain ⟨q, hq, same, -⟩ := kept r held
      have demand : q.demand = r.demand := by
        rw [same]
        rfl
      rw [hq]
      exact congrArg DemandTotals.dEss demand

theorem Sequencer.frameShed_eq (a : Sequencer) (shortfall : Nat) : ∃ l : List Slot, l.Nodup ∧
    (∀ i ∈ l, ∃ r, a.table[i] = some r ∧ r.config.tier = .comfort) ∧ a.frameShed shortfall = a.shedAll l := by
  obtain ⟨k, shed⟩ := Sequencer.shedUntil_eq shortfall (a.byStamp AuxRecord.eligible) 0 a
  refine ⟨_, (a.byStamp_nodup _).sublist (List.take_sublist k _), fun i listed => ?_, shed⟩
  obtain ⟨r, held, eligible⟩ := (a.mem_byStamp _ i).1 (List.mem_of_mem_take listed)
  simp only [AuxRecord.eligible, Bool.and_eq_true, beq_iff_eq, and_assoc] at eligible
  exact ⟨r, held, eligible.1⟩

/-- Counting the shortfall leaves the essential demand and the shortage flag (R140, R144). -/
theorem Sequencer.countShortfall_essential (a : Sequencer) (shortfall : Nat) :
    (a.countShortfall shortfall).totals.dEss = a.totals.dEss ∧
      (a.countShortfall shortfall).essentialShort = a.essentialShort := by
  unfold Sequencer.countShortfall
  split
  · exact ⟨rfl, rfl⟩
  · split
    · obtain ⟨l, distinct, comfort, shed⟩ := a.frameShed_eq shortfall
      obtain ⟨-, -, short, -⟩ := Sequencer.shedAll_rest l a
      rw [shed]
      exact ⟨a.shedAll_dEss distinct comfort, short⟩
    · exact ⟨rfl, rfl⟩

/-- The head test leaves the shortage flag (R134). -/
theorem Sequencer.testHead_essentialShort (a : Sequencer) (r : Record) (c : ContactState) :
    (a.testHead r c).essentialShort = a.essentialShort := by
  unfold Sequencer.testHead
  repeat' split
  all_goals rfl

/-! ## An event that lowers no pole (R117, R152, R153, R157) -/

/-- The kinds keep their own numbers (R149). -/
theorem EventKind.index_injective : Function.Injective EventKind.index := by
  have listed : ∀ k : EventKind, EventKind.list[k.index.val]? = some k := by
    intro k
    cases k <;> rfl
  intro k k' same
  exact Option.some.inj ((listed k).symm.trans (same ▸ listed k'))

/-- The source of the traction inhibit that an event routes, if it routes one (R117, R152). -/
def State.inhibitSource (s : State) (e : Event) : Option InhibitSource :=
  if (s.router.routing[e.kind.index]).action then
    match e.kind.action with
    | some (.tractionInhibit x) => some x
    | _ => none
  else none

/-- An inhibit is set where it was clear (R117). -/
def AllotmentUnit.inhibitBy (u : AllotmentUnit) (x : Option InhibitSource) : AllotmentUnit :=
  { u with inhibit := u.inhibit.or x }

/-- The unit after the mode cut of HALT (R89). -/
def AllotmentUnit.halted (u : AllotmentUnit) : AllotmentUnit :=
  { u with record := u.record.modeCut .halt, cutMark := true }

/-- What the router's work on events that lower no pole leaves as it was. -/
structure State.Spares (s t : State) : Prop where
  meas : t.meas = s.meas
  contact : t.contact = s.contact
  alarm : t.alarm = s.alarm
  sections : t.sections = s.sections
  store : t.store = s.store
  routing : t.router.routing = s.router.routing
  role : ∀ p, t.role p = s.role p

theorem State.Spares.trans {s t u : State} (h : s.Spares t) (h' : t.Spares u) : s.Spares u :=
  ⟨h'.meas.trans h.meas, h'.contact.trans h.contact, h'.alarm.trans h.alarm, h'.sections.trans h.sections,
    h'.store.trans h.store, h'.routing.trans h.routing, fun p => (h'.role p).trans (h.role p)⟩

theorem State.Spares.queueTo (s : State) (dest : PortId → Bool) (n : Notice) : s.Spares (s.queueTo dest n) :=
  ⟨rfl, rfl, rfl, rfl, rfl, rfl, s.queueTo_role dest n⟩

theorem State.Spares.setAux (s : State) (a : Sequencer) : s.Spares (s.setAux a) := by
  unfold State.setAux
  dsimp only
  split
  · exact ⟨rfl, rfl, rfl, rfl, rfl, rfl, fun _ => rfl⟩
  · exact ⟨rfl, rfl, rfl, rfl, rfl, rfl, fun p => State.notify_role _ _ p⟩

/-- The record in force waits as ALLOTMENT notice at a port (R83). -/
def State.RecordWaits (s : State) (p : PortId) : Prop := Notice.allotment s.allot.record ∈ (s.ports[p]).queue

theorem State.RecordWaits.queueTo {s : State} {p : PortId} (h : s.RecordWaits p) (dest : PortId → Bool) {n : Notice}
    (other : n.kind ≠ .allotment) : (s.queueTo dest n).RecordWaits p := by
  rw [State.RecordWaits, State.queueTo_queue]
  split
  · exact mem_enqueue_of_mem h fun same => other same.symm
  · exact h

theorem State.RecordWaits.notify {s : State} {p : PortId} (h : s.RecordWaits p) {n : Notice}
    (other : n.kind ≠ .allotment) : (s.notify n).RecordWaits p := h.queueTo _ other

/-- A publication waits at every port but ROOF's (R83). -/
theorem State.publish_waits (s : State) (p : PortId) (role : s.role p ≠ .roof) : s.publish.RecordWaits p := by
  rw [State.RecordWaits, State.publish, State.notify, State.queueTo_queue, if_pos]
  · exact mem_enqueue_self _ _ (by simp [Notice.kind])
  · simpa [Notice.kind, Role.receives] using role

theorem State.takeModeCut_waits (s : State) (m : Mode) (p : PortId) (role : s.role p ≠ .roof) :
    (s.takeModeCut m).RecordWaits p := by
  let cut := (s.setRecord (s.allot.record.modeCut m)).markCut
  have same : cut.shedOnCut.role p = s.role p := (State.Spares.setAux cut cut.aux.cutShed).role p
  exact State.publish_waits cut.shedOnCut p (same.trans_ne role)

theorem State.setInhibit_eq (s : State) (x : InhibitSource) :
    s.setInhibit x = { s with allot := s.allot.inhibitBy (some x) } := by
  cases set : s.allot.inhibit with
  | none => simp only [State.setInhibit, AllotmentUnit.inhibitBy, set, Option.none_or]
  | some y =>
    have kept : s.allot.inhibitBy (some x) = s.allot := by rw [AllotmentUnit.inhibitBy, set, Option.some_or, ← set]
    rw [kept]
    simp only [State.setInhibit, set]

section
variable (s : State) (e : Event)

/-- A STOPPING event in RUN is what moves the mode (R157). -/
def State.StopsOn : Prop := s.router.mode = .run ∧ e.cls = .stopping

theorem State.latchEvent_passing (passing : ¬s.StopsOn e) : s.latchEvent e = { s with router := { s.router with
    faults := s.router.faults.set e.kind.index ((s.router.faults[e.kind.index]).record e s.allot.frame) } } :=
  if_neg fun ⟨cls, run⟩ => passing ⟨run, cls⟩

theorem State.latchEvent_stopping (stops : s.StopsOn e) : s.latchEvent e =
    (({ s with router := { s.router with
        faults := s.router.faults.set e.kind.index ((s.router.faults[e.kind.index]).record e s.allot.frame)
        mode := .halt } } : State).takeModeCut .halt).notify (.mode .halt (some s.router.mode) (.fault e.kind)) :=
  if_pos ⟨stops.2, stops.1⟩

/-- The first step of an event: what it spares, and what a STOPPING one in RUN changes (R89, R143, R153, R157). -/
theorem State.latchEvent_effect : s.Spares (s.latchEvent e) ∧
    (s.StopsOn e → (s.latchEvent e).allot = s.allot.halted ∧ (s.latchEvent e).aux = s.aux.cutShed ∧
      (s.latchEvent e).router.mode = .halt) ∧
    (¬s.StopsOn e → (s.latchEvent e).allot = s.allot ∧ (s.latchEvent e).aux = s.aux ∧
      (s.latchEvent e).router.mode = s.router.mode) := by
  by_cases stops : s.StopsOn e
  · refine ⟨?_, fun _ => ?_, fun passing => absurd stops passing⟩
    · rw [s.latchEvent_stopping e stops]
      refine .trans (.trans ⟨rfl, rfl, rfl, rfl, rfl, rfl, fun _ => rfl⟩ ?_) (State.Spares.queueTo _ _ _)
      rw [State.takeModeCut_eq]
      refine .trans ?_ (State.Spares.queueTo _ _ _)
      split
      · exact ⟨rfl, rfl, rfl, rfl, rfl, rfl, fun _ => rfl⟩
      · exact ⟨rfl, rfl, rfl, rfl, rfl, rfl, fun p => State.notify_role _ _ p⟩
    · rw [s.latchEvent_stopping e stops, State.takeModeCut_eq]
      dsimp only
      split <;> exact ⟨rfl, rfl, rfl⟩
  · refine ⟨?_, fun stops' => absurd stops' stops, fun _ => ?_⟩ <;> rw [s.latchEvent_passing e stops]
    · exact ⟨rfl, rfl, rfl, rfl, rfl, rfl, fun _ => rfl⟩
    · exact ⟨rfl, rfl, rfl⟩

theorem State.RecordWaits.latchEvent {s : State} {p : PortId} (h : s.RecordWaits p) (role : s.role p ≠ .roof)
    (e : Event) : (s.latchEvent e).RecordWaits p := by
  by_cases stops : s.StopsOn e
  · rw [s.latchEvent_stopping e stops]
    let latched : State := { s with router := { s.router with
      faults := s.router.faults.set e.kind.index ((s.router.faults[e.kind.index]).record e s.allot.frame)
      mode := .halt } }
    have waits : (latched.takeModeCut .halt).RecordWaits p := latched.takeModeCut_waits .halt p role
    exact waits.notify (by simp [Notice.kind])
  · rw [s.latchEvent_passing e stops]
    exact h

/-- An event that lowers no pole does its first step, sets the inhibit that it routes, and is notified (R152). -/
theorem State.handleEvent_quiet (quiet : e.kind.action ≠ some .lowerPoles) : ∃ acted,
    s.handleEvent e =
      ({ s.latchEvent e with allot := (s.latchEvent e).allot.inhibitBy (s.inhibitSource e) } : State).queueTo
        (fun p => (s.router.routing[e.kind.index]).mask.getLsbD p) (e.notice acted) := by
  have unset : (s.latchEvent e).allot.inhibitBy none = (s.latchEvent e).allot := by simp [AllotmentUnit.inhibitBy]
  cases on : (s.router.routing[e.kind.index]).action with
  | false =>
    have sourceless : s.inhibitSource e = none := if_neg (by rw [on]; exact Bool.false_ne_true)
    exact ⟨false, by rw [s.handleEvent_unrouted e on, sourceless, unset]⟩
  | true =>
    cases action : e.kind.action with
    | none =>
      have sourceless : s.inhibitSource e = none := by simp [State.inhibitSource, action]
      exact ⟨false, by rw [s.handleEvent_plain e action, sourceless, unset]⟩
    | some a =>
      cases a with
      | lowerPoles => exact absurd action quiet
      | tractionInhibit x =>
        have sourced : s.inhibitSource e = some x := by
          rw [State.inhibitSource, if_pos on, action]
        refine ⟨true, ?_⟩
        rw [s.handleEvent_acting e _ action on, sourced, ← State.setInhibit_eq]
        rfl

/-- The whole handling of an event that lowers no pole, but for the fault table (R152, R157). -/
theorem State.handleEvent_effect (quiet : e.kind.action ≠ some .lowerPoles) : s.Spares (s.handleEvent e) ∧
    (s.StopsOn e → (s.handleEvent e).allot = s.allot.halted.inhibitBy (s.inhibitSource e) ∧
      (s.handleEvent e).aux = s.aux.cutShed ∧ (s.handleEvent e).router.mode = .halt) ∧
    (¬s.StopsOn e → (s.handleEvent e).allot = s.allot.inhibitBy (s.inhibitSource e) ∧
      (s.handleEvent e).aux = s.aux ∧ (s.handleEvent e).router.mode = s.router.mode) := by
  obtain ⟨acted, handled⟩ := s.handleEvent_quiet e quiet
  obtain ⟨spares, stopping, passing⟩ := s.latchEvent_effect e
  rw [handled]
  let inhibited : State :=
    { s.latchEvent e with allot := (s.latchEvent e).allot.inhibitBy (s.inhibitSource e) }
  have changed : (s.latchEvent e).Spares inhibited := ⟨rfl, rfl, rfl, rfl, rfl, rfl, fun _ => rfl⟩
  refine ⟨(spares.trans changed).trans (.queueTo inhibited _ _), fun stops => ?_, fun passes => ?_⟩
  · obtain ⟨allot, aux, mode⟩ := stopping stops
    exact ⟨congrArg (AllotmentUnit.inhibitBy · (s.inhibitSource e)) allot, aux, mode⟩
  · obtain ⟨allot, aux, mode⟩ := passing passes
    exact ⟨congrArg (AllotmentUnit.inhibitBy · (s.inhibitSource e)) allot, aux, mode⟩

theorem State.RecordWaits.handleEvent {s : State} {p : PortId} (h : s.RecordWaits p) (role : s.role p ≠ .roof)
    (e : Event) (quiet : e.kind.action ≠ some .lowerPoles) : (s.handleEvent e).RecordWaits p := by
  obtain ⟨acted, handled⟩ := s.handleEvent_quiet e quiet
  rw [handled]
  exact State.RecordWaits.queueTo (s := { s.latchEvent e with allot := _ }) (h.latchEvent role e) _
    (by simp [Event.notice, Notice.kind])

end

/-! ## Several events, each whole before the next (R149) -/

section
variable (s : State) {es : List Event} (quiet : ∀ e ∈ es, e.kind.action ≠ some .lowerPoles)
include quiet

theorem State.handleEvents_spares : s.Spares (s.handleEvents es) := by
  induction es generalizing s with
  | nil => exact ⟨rfl, rfl, rfl, rfl, rfl, rfl, fun _ => rfl⟩
  | cons e es ih =>
    obtain ⟨spares, -, -⟩ := s.handleEvent_effect e (quiet e (by simp))
    exact spares.trans (ih (s.handleEvent e) fun e' he => quiet e' (by simp [he]))

/-- Several events: the first STOPPING one in RUN takes the mode to HALT with its cut, and the first that routes an
inhibit sets one that is clear (R89, R117, R143, R157). -/
theorem State.handleEvents_effect : let inhibit := es.findSome? s.inhibitSource
    let t := s.handleEvents es
    ((s.router.mode = .run ∧ ∃ e ∈ es, e.cls = .stopping) →
      t.allot = s.allot.halted.inhibitBy inhibit ∧ t.aux = s.aux.cutShed ∧ t.router.mode = .halt) ∧
    (¬(s.router.mode = .run ∧ ∃ e ∈ es, e.cls = .stopping) →
      t.allot = s.allot.inhibitBy inhibit ∧ t.aux = s.aux ∧ t.router.mode = s.router.mode) := by
  induction es generalizing s with
  | nil => exact ⟨fun ⟨_, e, he, _⟩ => absurd he (by simp), fun _ => ⟨by simp [State.handleEvents,
      AllotmentUnit.inhibitBy], rfl, rfl⟩⟩
  | cons e es ih =>
    obtain ⟨spares, stopping, passing⟩ := s.handleEvent_effect e (quiet e (by simp))
    obtain ⟨stoppingRest, passingRest⟩ := ih (s.handleEvent e) fun e' he => quiet e' (by simp [he])
    have source : (s.handleEvent e).inhibitSource = s.inhibitSource := by
      funext e'
      simp only [State.inhibitSource, spares.routing]
    have inhibit (u : AllotmentUnit) : (u.inhibitBy (s.inhibitSource e)).inhibitBy (es.findSome? s.inhibitSource) =
        u.inhibitBy ((e :: es).findSome? s.inhibitSource) := by
      rw [List.findSome?_cons]
      cases s.inhibitSource e <;> simp [AllotmentUnit.inhibitBy]
    rw [source] at stoppingRest passingRest
    have rest : s.handleEvents (e :: es) = (s.handleEvent e).handleEvents es := rfl
    by_cases stops : s.StopsOn e
    · obtain ⟨allot, aux, mode⟩ := stopping stops
      obtain ⟨allot', aux', mode'⟩ := passingRest fun ⟨run, _⟩ => absurd (mode.symm.trans run) (by decide)
      refine ⟨fun _ => ?_, fun passes => absurd ⟨stops.1, e, by simp, stops.2⟩ passes⟩
      rw [rest]
      exact ⟨allot'.trans (by rw [allot, inhibit]), aux'.trans aux, mode'.trans mode⟩
    · obtain ⟨allot, aux, mode⟩ := passing stops
      have later : ((s.handleEvent e).router.mode = .run ∧ ∃ e' ∈ es, e'.cls = .stopping) ↔
          (s.router.mode = .run ∧ ∃ e' ∈ e :: es, e'.cls = .stopping) := by
        rw [mode]
        refine ⟨fun ⟨run, e', he, cls⟩ => ⟨run, e', by simp [he], cls⟩, fun ⟨run, e', he, cls⟩ => ⟨run, ?_⟩⟩
        rcases List.mem_cons.1 he with rfl | he
        · exact absurd ⟨run, cls⟩ stops
        · exact ⟨e', he, cls⟩
      rw [rest]
      refine ⟨fun stops' => ?_, fun passes => ?_⟩
      · obtain ⟨allot', aux', mode'⟩ := stoppingRest (later.2 stops')
        refine ⟨allot'.trans ?_, aux'.trans (by rw [aux]), mode'⟩
        rw [allot, ← inhibit]
        rfl
      · obtain ⟨allot', aux', mode'⟩ := passingRest (mt later.1 passes)
        exact ⟨allot'.trans (by rw [allot, inhibit]), aux'.trans aux, mode'.trans mode⟩

theorem State.RecordWaits.handleEvents {s : State} {p : PortId} (h : s.RecordWaits p) (role : s.role p ≠ .roof) :
    (s.handleEvents es).RecordWaits p := by
  induction es generalizing s with
  | nil => exact h
  | cons e es ih =>
    have first := quiet e (by simp)
    obtain ⟨spares, -, -⟩ := s.handleEvent_effect e first
    exact ih (fun e' he => quiet e' (by simp [he])) (h.handleEvent role e first) (by rw [spares.role]; exact role)

omit quiet in
/-- The entry of a kind that no event has stays (R153). -/
theorem State.handleEvents_other (k : EventKind) (other : ∀ e ∈ es, e.kind ≠ k) :
    (s.handleEvents es).router.faults[k.index] = s.router.faults[k.index] := by
  induction es generalizing s with
  | nil => rfl
  | cons e es ih =>
    have first : e.kind.index.val ≠ k.index.val := fun same =>
      other e (by simp) (EventKind.index_injective (Fin.ext same))
    refine (ih (s.handleEvent e) fun e' he => other e' (by simp [he])).trans ?_
    simp only [s.handleEvent_faults e, Fin.getElem_fin]
    exact Vector.getElem_set_ne _ _ first

/-- The entry of a kind that one event has is brought up to date by it (R153). -/
theorem State.handleEvents_entry (distinct : (es.map Event.kind).Nodup) {e : Event} (he : e ∈ es) :
    (s.handleEvents es).router.faults[e.kind.index] = (s.router.faults[e.kind.index]).record e s.allot.frame := by
  induction es generalizing s with
  | nil => cases he
  | cons x es ih =>
    have ⟨fresh, distinct⟩ := List.nodup_cons.1 distinct
    obtain ⟨-, stopping, passing⟩ := s.handleEvent_effect x (quiet x (by simp))
    have frame : (s.handleEvent x).allot.frame = s.allot.frame := by
      by_cases stops : s.StopsOn x
      · rw [(stopping stops).1]
        rfl
      · rw [(passing stops).1]
        rfl
    by_cases same : e = x
    · subst same
      refine Eq.trans (State.handleEvents_other (s.handleEvent e) e.kind fun e' he' same => ?_) (s.handleEvent_entry e)
      exact fresh (same ▸ List.mem_map_of_mem he')
    · have he : e ∈ es := (List.mem_cons.1 he).resolve_left same
      have apart : x.kind ≠ e.kind := fun k => fresh (k ▸ List.mem_map_of_mem he)
      refine Eq.trans (ih (s.handleEvent x) (fun e' he => quiet e' (by simp [he])) distinct he) ?_
      have entry : (s.handleEvent x).router.faults[e.kind.index] = s.router.faults[e.kind.index] :=
        State.handleEvents_other s (es := [x]) e.kind (by simpa using apart)
      rw [entry, frame]

end

end Sys2Proof.Machine

namespace Sys2Proof.Machine

/-! ## The sequencer's work on a published record (R140, R144) -/

theorem State.aux_setAux (s : State) (a : Sequencer) : (s.setAux a).aux = a := by
  unfold State.setAux
  dsimp only
  split <;> rfl

section
variable (s : State) (r : Record)

/-- The event of an essential shortage (R144). -/
def shortageEvent : Event := ⟨.essentialShort, .advisory, .absent⟩

/-- The sequencer that a publication leaves: the shortfall counted, the shortage noted, the head tested (R140). -/
def State.published (s : State) (r : Record) : Sequencer :=
  ({ s.aux.countShortfall r.shortfall with
    essentialShort := decide (r.essentialTotal < s.aux.totals.dEss) } : Sequencer).testHead r s.contact.contact

/-- The shortage test: the flag follows the shortage, and ESSENTIAL_SHORT is raised where it is set anew (R144). -/
theorem State.testEssential_effect : let t := s.testEssential r
    let short := r.essentialTotal < s.aux.totals.dEss
    s.Spares t ∧ t.allot = s.allot ∧ t.router.mode = s.router.mode ∧
      t.aux = { s.aux with essentialShort := decide short } ∧
      t.router.faults = (if short ∧ s.aux.essentialShort = false then
        s.router.faults.set 11 ((s.router.faults[11]).record shortageEvent s.allot.frame) else s.router.faults) := by
  intro t short
  by_cases lacks : r.essentialTotal < s.aux.totals.dEss
  · cases flag : s.aux.essentialShort with
    | true =>
      have same : t = s := by
        simp only [t, State.testEssential, if_pos lacks, flag, if_true]
      rw [same, if_neg (by simp)]
      refine ⟨⟨rfl, rfl, rfl, rfl, rfl, rfl, fun _ => rfl⟩, rfl, rfl, ?_, rfl⟩
      rw [decide_eq_true lacks, ← flag]
    | false =>
      let flagged : State := { s with aux := { s.aux with essentialShort := true } }
      have raised : t = flagged.handleEvent shortageEvent := by
        simp only [t, State.testEssential, if_pos lacks, flag, Bool.false_eq_true, if_false]
        rfl
      obtain ⟨spares, -, passing⟩ := flagged.handleEvent_effect shortageEvent (by decide)
      obtain ⟨allot, aux, mode⟩ := passing fun stops => absurd stops.2 (by decide)
      have unset : flagged.inhibitSource shortageEvent = none := by
        unfold State.inhibitSource
        split <;> rfl
      have flagging : s.Spares flagged := ⟨rfl, rfl, rfl, rfl, rfl, rfl, fun _ => rfl⟩
      rw [raised, if_pos ⟨lacks, rfl⟩, decide_eq_true lacks]
      refine ⟨flagging.trans spares, allot.trans ?_, mode, aux, flagged.handleEvent_faults shortageEvent⟩
      rw [unset]
      simp [AllotmentUnit.inhibitBy, flagged]
  · have enough : t = { s with aux := { s.aux with essentialShort := false } } := if_neg lacks
    rw [enough, if_neg fun h => lacks h.1, decide_eq_false lacks]
    exact ⟨⟨rfl, rfl, rfl, rfl, rfl, rfl, fun _ => rfl⟩, rfl, rfl, rfl, rfl⟩

/-- The sequencer takes a published record (R140). -/
theorem State.takePublication_effect : let t := s.takePublication r
    let short := r.essentialTotal < s.aux.totals.dEss
    s.Spares t ∧ t.allot = s.allot ∧ t.router.mode = s.router.mode ∧ t.aux = s.published r ∧
      t.router.faults = (if short ∧ s.aux.essentialShort = false then
        s.router.faults.set 11 ((s.router.faults[11]).record shortageEvent s.allot.frame) else s.router.faults) := by
  have counting : s.Spares (s.setAux (s.aux.countShortfall r.shortfall)) := State.Spares.setAux _ _
  have countedAux := s.aux_setAux (s.aux.countShortfall r.shortfall)
  have countedAllot := s.setAux_allot (s.aux.countShortfall r.shortfall)
  have router := s.setAux_router (s.aux.countShortfall r.shortfall)
  obtain ⟨essential, flag⟩ := s.aux.countShortfall_essential r.shortfall
  rw [State.takePublication]
  dsimp only
  generalize s.setAux (s.aux.countShortfall r.shortfall) = counted at *
  obtain ⟨testing, allot, mode, aux, faults⟩ := counted.testEssential_effect r
  rw [countedAux, essential] at aux faults
  rw [flag, router, countedAllot] at faults
  generalize counted.testEssential r = tested at *
  have spares := counting.trans testing
  have heading : tested.aux.testHead r tested.contact.contact = s.published r := by
    rw [aux, spares.contact]
    rfl
  rw [heading, State.setAux_allot, State.setAux_router, State.aux_setAux]
  exact ⟨spares.trans (State.Spares.setAux _ _), allot.trans countedAllot, mode.trans (congrArg Router.mode router), rfl,
    faults⟩

theorem State.published_essentialShort :
    (s.published r).essentialShort = decide (r.essentialTotal < s.aux.totals.dEss) :=
  Sequencer.testHead_essentialShort _ _ _

end

/-! ## The events of a frame expiry (R84, R115, R119) -/

section
variable (u : AllotmentUnit) (current : Option Nat)

/-- The supervision of the demand raises at most DEMAND_SILENT (R115). -/
theorem AllotmentUnit.superviseDemand_events : ∃ silent : Bool,
    u.superviseDemand.2 = if silent then [⟨.demandSilent, .advisory, .absent⟩] else [] := by
  unfold AllotmentUnit.superviseDemand
  split
  · exact ⟨false, rfl⟩
  · dsimp only
    split
    · exact ⟨true, rfl⟩
    · exact ⟨false, rfl⟩

/-- The supervision of the draw raises at most OVERDRAW and after it OVERDRAW_PERSIST, the latter where it sets its flag
(R119). -/
theorem AllotmentUnit.superviseDraw_events (draw : Int) : ∃ warns stops : Bool,
    (u.superviseDraw draw current).2 = (if warns then [⟨.overdraw, .advisory, .sectionId current⟩] else []) ++
      (if stops then [⟨.overdrawPersist, .stopping, .sectionId current⟩] else []) ∧
    (stops = true ↔ (u.superviseDraw draw current).1.persist = true ∧ u.persist = false) := by
  unfold AllotmentUnit.superviseDraw
  dsimp only
  split
  · exact ⟨false, false, rfl, by simp⟩
  · split
    · refine ⟨_, _, rfl, ?_⟩
      cases u.persist <;> simp
    · exact ⟨false, false, rfl, by simp⟩

/-- The events that a frame expiry can raise, in their order (R84, R115, R119). -/
def frameEventList (silent warns stops sags : Bool) (current : Option Nat) : List Event :=
  (if silent then [⟨.demandSilent, .advisory, .absent⟩] else []) ++
    ((if warns then [⟨.overdraw, .advisory, .sectionId current⟩] else []) ++
      ((if stops then [⟨.overdrawPersist, .stopping, .sectionId current⟩] else []) ++
        (if sags then [⟨.sag, .advisory, .sectionId current⟩] else [])))

/-- The events of a frame's supervision, and with the mark of SAG those of its expiry. -/
theorem AllotmentUnit.endEvents_eq : ∃ silent warns stops : Bool,
    (∀ sags : Bool, u.endEvents current ++ (if sags then [⟨.sag, .advisory, .sectionId current⟩] else []) =
      frameEventList silent warns stops sags current) ∧
    (stops = true ↔ (u.superviseDraw u.acc.means.iL current).1.persist = true ∧ u.persist = false) := by
  obtain ⟨silent, demand⟩ := u.superviseDemand_events
  obtain ⟨warns, stops, draw, persist⟩ := u.superviseDraw_events current u.acc.means.iL
  refine ⟨silent, warns, stops, fun sags => ?_, persist⟩
  rw [AllotmentUnit.endEvents, demand, draw, frameEventList]
  simp only [List.append_assoc]

end

section
variable (silent warns stops sags : Bool) (current : Option Nat)

theorem mem_frameEventList (e : Event) : e ∈ frameEventList silent warns stops sags current ↔
    (silent = true ∧ e = ⟨.demandSilent, .advisory, .absent⟩) ∨
      (warns = true ∧ e = ⟨.overdraw, .advisory, .sectionId current⟩) ∨
      (stops = true ∧ e = ⟨.overdrawPersist, .stopping, .sectionId current⟩) ∨
      (sags = true ∧ e = ⟨.sag, .advisory, .sectionId current⟩) := by
  simp only [frameEventList, List.mem_append, List.mem_ite_nil_right, List.mem_singleton]

theorem frameEventList_nodup : ((frameEventList silent warns stops sags current).map Event.kind).Nodup := by
  have piece (b : Bool) (e : Event) : (if b then [e] else []).Sublist [e] := by cases b <;> simp
  have all := (piece silent ⟨.demandSilent, .advisory, .absent⟩).append
    ((piece warns ⟨.overdraw, .advisory, .sectionId current⟩).append
      ((piece stops ⟨.overdrawPersist, .stopping, .sectionId current⟩).append
        (piece sags ⟨.sag, .advisory, .sectionId current⟩)))
  exact (all.map Event.kind).nodup (by simp)

/-- None of a frame's events lowers a pole, or is a shortage. -/
theorem frameEventList_quiet (e : Event) (he : e ∈ frameEventList silent warns stops sags current) :
    e.kind.action ≠ some .lowerPoles ∧ e.kind ≠ .essentialShort := by
  rw [mem_frameEventList] at he
  obtain ⟨-, rfl⟩ | ⟨-, rfl⟩ | ⟨-, rfl⟩ | ⟨-, rfl⟩ := he <;> simp [EventKind.action]

theorem frameEventList_stopping :
    (∃ e ∈ frameEventList silent warns stops sags current, e.cls = .stopping) ↔ stops = true := by
  simp only [mem_frameEventList]
  constructor
  · rintro ⟨e, ⟨-, rfl⟩ | ⟨-, rfl⟩ | ⟨stops, -⟩ | ⟨-, rfl⟩, cls⟩
    · cases cls
    · cases cls
    · exact stops
    · cases cls
  · exact fun stops => ⟨_, .inr (.inr (.inl ⟨stops, rfl⟩)), rfl⟩

/-- The inhibit that a frame's events set: DEMAND_SILENT's ahead of OVERDRAW's, where routed (R115, R117, R119). -/
theorem frameEventList_inhibit (s : State) : (frameEventList silent warns stops sags current).findSome? s.inhibitSource =
    if silent = true ∧ (s.router.routing[EventKind.demandSilent.index]).action = true then some .demandSilent
    else if warns = true ∧ (s.router.routing[EventKind.overdraw.index]).action = true then some .overdraw else none := by
  have unset (c : EventClass) (k : EventKind) (d : Detail) (h : k.action = none) : s.inhibitSource ⟨k, c, d⟩ = none := by
    unfold State.inhibitSource
    rw [h]
    exact ite_self _
  have stop : (if stops then [(⟨.overdrawPersist, .stopping, .sectionId current⟩ : Event)] else []).findSome?
      s.inhibitSource = none := by
    cases stops
    · rfl
    · simp [unset _ .overdrawPersist _ rfl]
  have sag : (if sags then [(⟨.sag, .advisory, .sectionId current⟩ : Event)] else []).findSome?
      s.inhibitSource = none := by
    cases sags
    · rfl
    · simp [unset _ .sag _ rfl]
  rw [frameEventList, List.findSome?_append, List.findSome?_append, List.findSome?_append, stop, sag]
  cases silent <;> cases warns <;> simp [State.inhibitSource, EventKind.action]
  all_goals split <;> simp

end

section
variable (s : State)

/-- The events of a frame expiry, SAG last (R84, R115, R119). -/
def State.frameEvents : List Event :=
  s.allot.endEvents s.sections.current ++
    if sagRaised s.allot.sag s.computed then [⟨.sag, .advisory, .sectionId s.sections.current⟩] else []

/-- A frame expiry as the installation of its record, the sequencer's work on it, its publication and its events (R73). -/
theorem State.expireFrame_events :
    s.expireFrame = (s.installed.takePublication s.computed).publish.handleEvents s.frameEvents := by
  obtain ⟨silent, warns, stops, events, -⟩ := s.allot.endEvents_eq s.sections.current
  have quiet : ∀ e ∈ s.allot.endEvents s.sections.current, e.kind.action ≠ some .lowerPoles := fun e he =>
    (frameEventList_quiet silent warns stops false s.sections.current e (by simpa [← events] using he)).1
  have sections : s.supervised.sections = s.sections := by
    obtain ⟨taking, -⟩ := s.installed.takePublication_effect s.computed
    rw [State.supervised, (State.handleEvents_spares _ quiet).sections, State.publish_sections, taking.sections]
    rfl
  rw [s.expireFrame_eq, State.frameEvents, State.sagEvent, sections]
  split
  · rw [State.handleEvents, List.foldl_append]
    rfl
  · rw [List.append_nil]
    rfl

end

end Sys2Proof.Machine

namespace Sys2Proof.Machine

/-! ## What a frame expiry leaves (R73, R83, R89, R140) -/

section
variable (s : State)

/-- The supervision of a frame sets the persistence flag in RUN, and with it moves the mode to HALT (R119, R157). -/
def State.FrameStops : Prop :=
  s.router.mode = .run ∧ (s.allot.superviseDraw s.allot.acc.means.iL s.sections.current).1.persist = true ∧
    s.allot.persist = false

theorem State.frameEvents_eq : ∃ silent warns stops : Bool,
    s.allot.endEvents s.sections.current = frameEventList silent warns stops false s.sections.current ∧
    s.frameEvents = frameEventList silent warns stops (sagRaised s.allot.sag s.computed) s.sections.current ∧
    (stops = true ↔ (s.allot.superviseDraw s.allot.acc.means.iL s.sections.current).1.persist = true ∧
      s.allot.persist = false) := by
  obtain ⟨silent, warns, stops, events, persist⟩ := s.allot.endEvents_eq s.sections.current
  exact ⟨silent, warns, stops, by simpa using events false, events _, persist⟩

theorem State.frameEvents_quiet (e : Event) (he : e ∈ s.frameEvents) :
    e.kind.action ≠ some .lowerPoles ∧ e.kind ≠ .essentialShort := by
  obtain ⟨silent, warns, stops, -, events, -⟩ := s.frameEvents_eq
  rw [events] at he
  exact frameEventList_quiet _ _ _ _ _ e he

/-- The state that a frame's events find: its record installed, taken by the sequencer and published (R73, R140). -/
def State.handedOn : State := (s.installed.takePublication s.computed).publish

theorem State.expireFrame_handedOn : s.expireFrame = s.handedOn.handleEvents s.frameEvents := s.expireFrame_events

theorem State.handedOn_effect : s.Spares s.handedOn ∧ s.handedOn.allot = s.installed.allot ∧
    s.handedOn.router.mode = s.router.mode ∧ s.handedOn.aux = s.published s.computed ∧
    s.handedOn.router.faults = (if s.computed.essentialTotal < s.aux.totals.dEss ∧ s.aux.essentialShort = false then
      s.router.faults.set 11 ((s.router.faults[11]).record shortageEvent (s.allot.frame + 1)) else s.router.faults) := by
  obtain ⟨spares, allot, mode, aux, faults⟩ := s.installed.takePublication_effect s.computed
  have installing : s.Spares s.installed := ⟨rfl, rfl, rfl, rfl, rfl, rfl, fun _ => rfl⟩
  rw [State.handedOn, State.publish_allot, State.publish_router, State.publish_aux]
  exact ⟨(installing.trans spares).trans (.queueTo _ _ _), allot, mode, aux, faults⟩

/-- What a frame expiry leaves alone. -/
theorem State.expireFrame_spares : s.Spares s.expireFrame := by
  rw [s.expireFrame_handedOn]
  exact s.handedOn_effect.1.trans (State.handleEvents_spares _ fun e he => (s.frameEvents_quiet e he).1)

/-- The unit, the sequencer and the mode after a frame expiry (R73, R83, R89, R117, R140, R143). -/
theorem State.expireFrame_effect : let inhibit := s.frameEvents.findSome? s.inhibitSource
    let t := s.expireFrame
    (s.FrameStops → t.allot = s.installed.allot.halted.inhibitBy inhibit ∧
      t.aux = (s.published s.computed).cutShed ∧ t.router.mode = .halt) ∧
    (¬s.FrameStops → t.allot = s.installed.allot.inhibitBy inhibit ∧ t.aux = s.published s.computed ∧
      t.router.mode = s.router.mode) := by
  obtain ⟨spares, allot, mode, aux, -⟩ := s.handedOn_effect
  obtain ⟨silent, warns, stops, -, events, persist⟩ := s.frameEvents_eq
  have stopping : (∃ e ∈ s.frameEvents, e.cls = .stopping) ↔ _ :=
    (events ▸ frameEventList_stopping _ _ _ _ _).trans persist
  have source : s.handedOn.inhibitSource = s.inhibitSource := by
    funext e
    simp only [State.inhibitSource, spares.routing]
  have effect := State.handleEvents_effect s.handedOn fun e he => (s.frameEvents_quiet e he).1
  rw [← s.expireFrame_handedOn, source, allot, mode, aux, stopping] at effect
  exact effect

theorem State.expireFrame_waits (p : PortId) (role : s.role p ≠ .roof) : s.expireFrame.RecordWaits p := by
  obtain ⟨spares, -⟩ := s.installed.takePublication_effect s.computed
  rw [s.expireFrame_handedOn]
  have roof : (s.installed.takePublication s.computed).role p ≠ .roof := (spares.role p).trans_ne role
  exact State.RecordWaits.handleEvents (fun e he => (s.frameEvents_quiet e he).1) (State.publish_waits _ p roof)
    ((State.notify_role _ _ p).trans_ne roof)

/-- The entry of an event of a frame expiry, with the new frame's number (R153). -/
theorem State.expireFrame_entry {e : Event} (he : e ∈ s.frameEvents) :
    s.expireFrame.router.faults[e.kind.index] = (s.router.faults[e.kind.index]).record e (s.allot.frame + 1) := by
  obtain ⟨silent, warns, stops, -, events, -⟩ := s.frameEvents_eq
  obtain ⟨-, allot, -, -, faults⟩ := s.handedOn_effect
  have distinct : (s.frameEvents.map Event.kind).Nodup := events ▸ frameEventList_nodup _ _ _ _ _
  have entry := State.handleEvents_entry s.handedOn (fun e he => (s.frameEvents_quiet e he).1) distinct he
  have apart : (11 : Nat) ≠ e.kind.index.val := fun same =>
    (s.frameEvents_quiet e he).2 (EventKind.index_injective (Fin.ext same.symm))
  have kept : s.handedOn.router.faults[e.kind.index] = s.router.faults[e.kind.index] := by
    simp only [faults, Fin.getElem_fin]
    split
    · exact Vector.getElem_set_ne _ _ apart
    · rfl
  rw [s.expireFrame_handedOn, entry, kept, allot]
  rfl

/-- The entry of a kind that no event of the frame expiry has (R153). -/
theorem State.expireFrame_other (k : EventKind) (other : ∀ e ∈ s.frameEvents, e.kind ≠ k) :
    s.expireFrame.router.faults[k.index] = s.handedOn.router.faults[k.index] := by
  rw [s.expireFrame_handedOn]
  exact s.handedOn.handleEvents_other k other

theorem State.handedOn_other (k : EventKind) (other : k ≠ .essentialShort) :
    s.handedOn.router.faults[k.index] = s.router.faults[k.index] := by
  obtain ⟨-, -, -, -, faults⟩ := s.handedOn_effect
  have apart : (11 : Nat) ≠ k.index.val := fun same => other (EventKind.index_injective (Fin.ext same.symm))
  simp only [faults, Fin.getElem_fin]
  split
  · exact Vector.getElem_set_ne _ _ apart
  · rfl

/-- FRAME_EXPIRY with the timer running (R73). -/
theorem exec_frameExpiry (up : s.up = true) (runs : s.allot.frameTimer.isRunning = true) :
    exec .frameExpiry s = .next s.expireFrame.beginWaiting := by
  have timed : exec .frameExpiry s = s.act fun s => if s.allot.frameTimer.isRunning then s.expireFrame else s := rfl
  rw [timed, s.act_of_up _ up, if_pos runs]

/-- The record in force after a frame expiry: the computed one, or what the mode cut of HALT leaves of it (R83, R89). -/
theorem State.expireFrame_record : s.expireFrame.allot.record = s.computed ∨
    s.expireFrame.allot.record = s.computed.modeCut .halt := by
  obtain ⟨stopping, passing⟩ := s.expireFrame_effect
  by_cases stops : s.FrameStops
  · exact .inr (congrArg AllotmentUnit.record (stopping stops).1)
  · exact .inl (congrArg AllotmentUnit.record (passing stops).1)

end

/-! ## The slew of traction (R78, R85) -/

/-- A computed record grants traction no more than the effective request (R78, R80). -/
theorem AllotmentUnit.compute_traction (u : AllotmentUnit) (i : FrameInputs) :
    (u.compute i).tractionTotal ≤ u.record.tractionTotal + u.line.sUp := by
  unfold Record.tractionTotal
  by_cases run : i.mode = .run
  · obtain ⟨-, -, -, -, trLine, trBat, -, -⟩ := u.compute_walk_of_run i run
    have slewed : u.effectiveRequest .run ≤ u.record.tractionTotal + u.line.sUp := min_le_right _ _
    have line : (u.compute i).aTrLine ≤ u.effectiveRequest .run := trLine.le.trans (min_le_left _ _)
    have bat : (u.compute i).aTrBat ≤ u.effectiveRequest .run - (u.compute i).aTrLine := by
      rw [trBat]
      split
      · exact min_le_left _ _
      · exact Nat.zero_le _
    unfold Record.tractionTotal at slewed
    omega
  · obtain ⟨-, -, trBat, -, -, -, -, trLine, -⟩ := u.compute_walk_of_not_run i run
    rw [trBat, trLine]
    exact Nat.zero_le _

/-- Settles O41: the record in force is the computed one, that grants no more than the slewed request, or a mode cut of it. -/
theorem tractionRisesBySlewAtMost : Obligations.TractionRisesBySlewAtMost := by
  intro s t step
  have timed : exec .frameExpiry s = s.act fun s => if s.allot.frameTimer.isRunning then s.expireFrame else s := rfl
  rw [timed, State.act_next] at step
  cases step
  split
  · rw [State.beginWaiting_allot]
    split
    · have computed : s.computed.tractionTotal ≤ s.allot.record.tractionTotal + s.allot.line.sUp :=
        (s.allot.ended s.sections.current).compute_traction s.frameInputs
      rcases s.expireFrame_record with same | cut
      · rw [same]
        exact computed
      · rw [cut]
        exact Nat.zero_le _
    · exact Nat.le_add_right _ _
  · exact Nat.le_add_right _ _

/-! ## SAG and ESSENTIAL_SHORT (R84, R144) -/

/-- Settles O42: SAG by the reference that the installation finds, ESSENTIAL_SHORT by the flag that the sequencer holds. -/
theorem weakLineAndShortageRaiseOnce : Obligations.WeakLineAndShortageRaiseOnce := by
  intro s up runs
  refine ⟨_, exec_frameExpiry s up runs, ?_⟩
  rw [State.beginWaiting_allot, State.beginWaiting_router, State.beginWaiting_aux]
  intro available weak short
  have line : s.computed.lineAvailable = true ↔ available :=
    ((s.allot.ended s.sections.current).compute_heading s.frameInputs).2.2.1
  obtain ⟨factors, granted⟩ : s.expireFrame.allot.record.factors = s.computed.factors ∧
      s.expireFrame.allot.record.essentialTotal = s.computed.essentialTotal := by
    rcases s.expireFrame_record with same | cut
    · rw [same]
      exact ⟨rfl, rfl⟩
    · rw [cut]
      exact ⟨rfl, rfl⟩
  have weakens : weak ↔ s.computed.factors.kV < 1024 := by
    simp only [weak, factors]
  have lacks : short ↔ s.computed.essentialTotal < s.aux.totals.dEss := by
    rw [← granted]
    rfl
  obtain ⟨stopping, passing⟩ := s.expireFrame_effect
  obtain ⟨silent, warns, stops, -, events, -⟩ := s.frameEvents_eq
  obtain ⟨-, -, -, -, faults⟩ := s.handedOn_effect
  refine ⟨?_, ?_, ?_, ?_⟩
  · have sag : s.expireFrame.allot.sag = sagAfter s.allot.sag s.computed := by
      by_cases stop : s.FrameStops
      · exact congrArg AllotmentUnit.sag (stopping stop).1
      · exact congrArg AllotmentUnit.sag (passing stop).1
    rw [sag]
    simp only [sagAfter, line, weakens]
  · have raised : sagRaised s.allot.sag s.computed = true ↔ available ∧ weak ∧ s.allot.sag = .full := by
      simp only [sagRaised, Bool.and_eq_true, decide_eq_true_eq, beq_iff_eq, line, weakens, and_assoc]
    rw [if_congr raised.symm rfl rfl]
    split
    · next sags =>
      have entry := s.expireFrame_entry (e := ⟨.sag, .advisory, .sectionId s.sections.current⟩) (by
        rw [events, mem_frameEventList]
        exact .inr (.inr (.inr ⟨sags, rfl⟩)))
      exact ⟨congrArg FaultEntry.count entry, congrArg FaultEntry.lastDetail entry⟩
    · next calm =>
      refine (s.expireFrame_other .sag fun e he => ?_).trans (s.handedOn_other .sag (by decide))
      rw [events, mem_frameEventList] at he
      obtain ⟨-, rfl⟩ | ⟨-, rfl⟩ | ⟨-, rfl⟩ | ⟨sags, -⟩ := he
      · simp
      · simp
      · simp
      · exact absurd sags calm
  · have flag : s.expireFrame.aux.essentialShort = (s.published s.computed).essentialShort := by
      by_cases stop : s.FrameStops
      · rw [(stopping stop).2.1]
        exact (Sequencer.shedAll_rest _ _).2.2.1
      · rw [(passing stop).2.1]
    rw [flag, s.published_essentialShort s.computed]
    exact decide_eq_decide.2 lacks.symm
  · have entry : s.expireFrame.router.faults[11] = s.handedOn.router.faults[11] :=
      s.expireFrame_other .essentialShort fun e he => (s.frameEvents_quiet e he).2
    rw [entry, if_congr (and_congr_left' lacks) rfl rfl]
    simp only [faults]
    split
    · next raised => simp [FaultEntry.record, satSucc, shortageEvent]
    · rfl

/-! ## The frame expiry as a whole -/

/-- A notice that waits at a port waits on, or is being sent, once the transmitter has made its choice (R176). -/
theorem State.RecordWaits.beginWaiting {s : State} {p : PortId} (h : s.RecordWaits p) :
    Notice.allotment s.allot.record ∈ (s.beginWaiting.ports[p]).queue ∨
      (s.beginWaiting.ports[p]).tx = some (.notice (.allotment s.allot.record)) := by
  unfold State.RecordWaits at h
  simp only [Fin.getElem_fin, State.beginWaiting_port] at h ⊢
  rcases (s.ports[p.val]).beginWaiting_cases with same | ⟨-, -, same⟩ | ⟨n, rest, -, -, -, queue, same⟩
  · rw [same]
    exact .inl h
  · rw [same]
    exact .inl h
  · rw [same]
    rw [queue] at h
    rcases List.mem_cons.1 h with rfl | h
    · exact .inr rfl
    · exact .inl h

/-- The fault-table entry that an event leaves (R153). -/
theorem FaultEntry.record_latch (f : FaultEntry) (e : Event) (frame : BitVec 32) : (f.record e frame).latch =
    if f.latch = .stopping ∨ e.cls = .stopping then .stopping else .advisory := by
  simp only [FaultEntry.record]
  cases f.latch <;> cases e.cls <;> simp [Latch.higher, EventClass.latch]

/-- The computed record, seen on the unit as the expiry finds it: the computation reads of the frame's end the demand alone,
and the STALE flag by the demand's age (R74, R84). -/
theorem State.computed_eq (s : State) :
    let u := s.allot
    let d := (u.superviseDemand).1.demand
    s.computed = ({ u with demand := d } : AllotmentUnit).compute
      { frame := u.frame + 1, means := u.acc.means, mode := s.router.mode, contact := s.contact.contact
        limits := s.sections.limits, totals := s.aux.totals, overvolt := s.contact.monitors.overvolt.output
        stale := match d with
          | some x => decide (u.demandSettings.holdFrames < x.age ∧ x.mode ≠ .brake)
          | none => false } := by
  intro u d
  have stale : (u.ended s.sections.current).staleFlag = match d with
      | some x => decide (u.demandSettings.holdFrames < x.age ∧ x.mode ≠ .brake)
      | none => false := by
    show (match d with
      | some x => x.stale u.demandSettings.holdFrames
      | none => false) = _
    cases d with
    | none => rfl
    | some x =>
      simp only [DemandRecord.stale, Bool.decide_and]
      congr 1
      cases x.mode <;> rfl
  rw [← stale]
  rfl

theorem raised_frameEventList (silent warns stops : Bool) (current : Option Nat) :
    let raised (k : EventKind) : Prop := ∃ e ∈ frameEventList silent warns stops false current, e.kind = k
    (raised .demandSilent ↔ silent = true) ∧ (raised .overdraw ↔ warns = true) := by
  simp only [mem_frameEventList]
  refine ⟨⟨?_, fun silences => ⟨_, .inl ⟨silences, rfl⟩, rfl⟩⟩, ⟨?_, fun warning => ⟨_, .inr (.inl ⟨warning, rfl⟩), rfl⟩⟩⟩
  · rintro ⟨e, ⟨silences, -⟩ | ⟨-, rfl⟩ | ⟨-, rfl⟩ | ⟨-, rfl⟩, kind⟩
    · exact silences
    all_goals cases kind
  · rintro ⟨e, ⟨-, rfl⟩ | ⟨warning, -⟩ | ⟨-, rfl⟩ | ⟨-, rfl⟩, kind⟩
    · cases kind
    · exact warning
    all_goals cases kind

/-- Settles O40: the unit after the expiry field by field, the cut where the draw stops RUN, the fault table by the events,
the inhibit in their order, and the record that waits. -/
theorem frameExpiryInstallsARecord : Obligations.FrameExpiryInstallsARecord := by
  intro s up runs u period d w r tested
  have computed : s.computed = r := s.computed_eq
  have published : s.published s.computed = tested := congrArg s.published computed
  obtain ⟨stopping, passing⟩ := s.expireFrame_effect
  have spares := s.expireFrame_spares
  obtain ⟨silent, warns, stops, ending, events, persist⟩ := s.frameEvents_eq
  have unit : s.expireFrame.allot = { s.installed.allot with
      record := s.expireFrame.allot.record, cutMark := s.expireFrame.allot.cutMark
      inhibit := s.expireFrame.allot.inhibit } := by
    by_cases stop : s.FrameStops
    · rw [(stopping stop).1]
      rfl
    · rw [(passing stop).1]
      rfl
  have inhibit : s.expireFrame.allot.inhibit = u.inhibit.or (s.frameEvents.findSome? s.inhibitSource) := by
    by_cases stop : s.FrameStops
    · rw [(stopping stop).1]
      rfl
    · rw [(passing stop).1]
      rfl
  obtain ⟨frame, means, factors⟩ : s.expireFrame.allot.record.frame = u.frame + 1 ∧
      s.expireFrame.allot.record.means = u.acc.means ∧
      s.expireFrame.allot.record.factors = u.factors u.acc.means := by
    rcases s.expireFrame_record with same | cut
    · rw [same]
      exact ⟨rfl, rfl, rfl⟩
    · rw [cut]
      exact ⟨rfl, rfl, rfl⟩
  refine ⟨_, exec_frameExpiry s up runs, ?_⟩
  rw [State.beginWaiting_allot, State.beginWaiting_router, State.beginWaiting_aux, State.beginWaiting_meas,
    State.beginWaiting_contact, State.beginWaiting_sections, State.beginWaiting_alarm, State.beginWaiting_store]
  refine ⟨by rw [unit]; rfl, by rw [unit]; rfl, by rw [unit]; rfl, by rw [unit]; rfl, by rw [unit]; rfl, by rw [unit]; rfl,
    by rw [unit]; rfl, by rw [unit]; rfl, by rw [unit]; rfl, by rw [unit]; rfl, by rw [unit]; rfl, by rw [unit]; rfl,
    by rw [unit]; rfl, by rw [unit]; rfl, frame, means, factors, ?_, ⟨?_, ?_, ?_⟩,
    fun p role => (s.expireFrame_waits p role).beginWaiting, spares.meas, spares.contact, spares.sections, spares.alarm,
    spares.store⟩
  · split
    · next stop =>
      obtain ⟨allot, aux, mode⟩ := stopping stop
      rw [allot, aux, mode, published, ← computed]
      exact ⟨rfl, rfl, rfl, rfl⟩
    · next pass =>
      obtain ⟨allot, aux, mode⟩ := passing pass
      rw [allot, aux, mode, published, ← computed]
      exact ⟨rfl, rfl, rfl, rfl⟩
  · intro k kinds f g
    refine ⟨fun e he same => ?_, fun unraised => ?_⟩
    · subst same
      have entry : g = f.record e (u.frame + 1) := s.expireFrame_entry (List.mem_append_left _ he)
      rw [entry]
      exact ⟨rfl, rfl, rfl, f.record_latch e _⟩
    · have plain : k ≠ .sag ∧ k ≠ .essentialShort := by
        obtain rfl | rfl | rfl := kinds <;> decide
      refine (s.expireFrame_other k fun e he same => ?_).trans (s.handedOn_other k plain.2)
      rcases List.mem_append.1 he with he | he
      · exact unraised ⟨e, he, same⟩
      · split at he
        · rw [List.mem_singleton.1 he] at same
          exact plain.1 same.symm
        · cases he
  · intro source set
    rw [inhibit, set]
    rfl
  · intro clear acts
    obtain ⟨silences, warning⟩ := raised_frameEventList silent warns stops s.sections.current
    have raised (k : EventKind) : (∃ e ∈ u.superviseDemand.2 ++ (u.superviseDraw u.acc.means.iL s.sections.current).2,
        e.kind = k) ↔ ∃ e ∈ frameEventList silent warns stops false s.sections.current, e.kind = k := by
      rw [← ending]
      rfl
    have silenced : acts .demandSilent ↔
        silent = true ∧ (s.router.routing[EventKind.demandSilent.index]).action = true :=
      and_congr_left' ((raised _).trans silences)
    have warned : acts .overdraw ↔ warns = true ∧ (s.router.routing[EventKind.overdraw.index]).action = true :=
      and_congr_left' ((raised _).trans warning)
    rw [inhibit, clear, Option.none_or, events, frameEventList_inhibit, silenced, warned]
    refine ⟨fun silent => if_pos silent, fun heard warns => ?_, fun heard within => ?_⟩
    · rw [if_neg heard, if_pos warns]
    · rw [if_neg heard, if_neg within]

end Sys2Proof.Machine

namespace Sys2Proof.Machine

/-! ## BATTERY (R97, R98) -/

/-- A switch byte above 1 names neither value (R181). -/
theorem switchOf_none (b : Byte) (h : 1 < b.toNat) : switchOf b = none := by
  unfold switchOf
  split
  · omega
  · omega
  · rfl

/-- A battery cut lowers one of the eight fields that it may lower (R98). -/
theorem Record.batteryCutLowers_iff (r : Record) : r.batteryCutLowers = true ↔
    0 < r.bBat ∨ 0 < r.aEssBat ∨ 0 < r.aTrBat ∨ 0 < r.aRgBat ∨ 0 < r.hBat ∨ 0 < r.aCh ∨
      r.batteryCut.aRgAux < r.aRgAux ∨ r.batteryCut.aRg < r.aRg :=
  decide_eq_true_iff

/-- A battery cut installs the cut record, marks a cut frame where charge was granted, and publishes where a field was
lowered (R98). -/
theorem State.takeBatteryCut_eq (s : State) : s.takeBatteryCut =
    let r := s.allot.record
    let cut : State := { s with allot := { s.allot with
      record := r.batteryCut, cutMark := s.allot.cutMark || decide (0 < r.aCh) } }
    if r.batteryCutLowers then cut.notify (.allotment r.batteryCut) else cut := by
  by_cases charge : 0 < s.allot.record.aCh
  · simp only [State.takeBatteryCut, charge, decide_true, Bool.or_true]
    rfl
  · simp only [State.takeBatteryCut, charge, decide_false, Bool.or_false]
    rfl

section
variable (s : State) {value : Byte}

/-- BATTERY naming the state in force (R97). -/
theorem answerBattery_already {b : Bool} (named : switchOf value = some b) (same : s.allot.batteryAvailable = b) :
    answerBattery value s = s.refuse .already := by
  simp only [answerBattery, named, if_pos same]

/-- A change to AVAILABLE stores the state alone (R97). -/
theorem answerBattery_available (named : switchOf value = some true) (isolated : s.allot.batteryAvailable = false) :
    answerBattery value s = ({ s with allot := { s.allot with batteryAvailable := true } } : State).ok := by
  simp [answerBattery, named, isolated]

/-- A change to ISOLATED stores the state and takes the battery cut (R97, R98). -/
theorem answerBattery_isolated (named : switchOf value = some false) (available : s.allot.batteryAvailable = true) :
    answerBattery value s =
      ({ s with allot := { s.allot with batteryAvailable := false } } : State).takeBatteryCut.ok := by
  simp [answerBattery, named, available]

end

/-- Settles O48: the byte and the state in force decide the answer, and on isolation the battery cut is the whole of what
changes but the state stored. -/
theorem batteryIsReported : Obligations.BatteryIsReported := by
  intro p tag value s hears h reply
  obtain ⟨cab, other⟩ := State.actRequest_of_cab hears 0x34 tag (answerBattery value) (by decide)
  refine ⟨other, fun role => ?_⟩
  have answered {u : State} {code : ReplyCode} (hx : answerBattery value h = { state := u, code := code }) :
      reply u code :=
    (cab role).trans (by rw [hx])
  refine ⟨fun above => ?_, ?_, ?_, ?_, ?_⟩
  · have format : answerBattery value h = h.refuse .format := by simp only [answerBattery, switchOf_none value above]
    exact answered format
  · rintro rfl available
    exact answered (answerBattery_already h rfl available)
  · rintro rfl isolated
    exact answered (answerBattery_already h rfl isolated)
  · rintro rfl isolated
    exact answered (answerBattery_available h rfl isolated)
  · rintro rfl available r aux total isolated cut lowers
    have told : ({ h with allot := { s.allot with batteryAvailable := false } } : State).takeBatteryCut =
        if lowers then cut.notify (.allotment isolated) else cut := by
      rw [State.takeBatteryCut_eq]
      simp only [Record.batteryCutLowers_iff]
      rfl
    exact answered ((answerBattery_isolated h rfl available).trans (congrArg State.ok told))

end Sys2Proof.Machine

namespace Sys2Proof.Machine

/-! ## Supervision of the demand (R112 to R115) -/

section
variable (d : DemandRecord) (hold decay cutoff : Nat)

/-- A frame expiry ages a demand, and lowers it by the decay where the new age is beyond the hold, except in BRAKE
(R114). -/
theorem DemandRecord.grow_eq : d.grow hold decay =
    let aged := min (d.age + 1) 65535
    { d with
      age := aged
      effective := if hold < aged ∧ d.mode ≠ .brake then d.effective - decay else d.effective } := by
  by_cases lowered : hold < min (d.age + 1) 65535 ∧ d.mode ≠ .brake
  · have acts : ({ d with age := satSucc 65535 d.age } : DemandRecord).stale hold = true := by
      simpa [DemandRecord.stale, satSucc] using lowered
    simp only [DemandRecord.grow, acts, if_pos lowered, if_true]
    rfl
  · have rests : ({ d with age := satSucc 65535 d.age } : DemandRecord).stale hold = false := by
      simpa [DemandRecord.stale, satSucc] using lowered
    simp only [DemandRecord.grow, rests, if_neg lowered, if_false, Bool.false_eq_true]
    rfl

/-- DEMAND_SILENT is due at an age at or above the cutoff with the silence flag clear (R115). -/
theorem DemandRecord.fallsSilent_iff : d.fallsSilent cutoff = true ↔ cutoff ≤ d.age ∧ d.silent = false := by
  simp [DemandRecord.fallsSilent]

/-- The expiries of k frames on a demand that nothing renews: it is held at the received magnitude up to the hold, and
loses the decay at each expiry after it (R114). -/
theorem DemandRecord.grow_iterate (mode : DemandMode) (received k : Nat) (bound : k ≤ 65535) :
    (fun x : DemandRecord => x.grow hold decay)^[k] ⟨mode, received, received, 0, false⟩ =
      ⟨mode, received, if k ≤ hold ∨ mode = .brake then received else received - decay * (k - hold), k, false⟩ := by
  induction k with
  | zero => simp
  | succ k ih =>
    have counted : min (k + 1) 65535 = k + 1 := Nat.min_eq_left bound
    rw [Function.iterate_succ_apply', ih (by omega), DemandRecord.grow_eq]
    dsimp only
    rw [counted]
    congr 1
    by_cases brake : mode = .brake
    · simp [brake]
    · by_cases held : k + 1 ≤ hold
      · simp [held, Nat.le_of_succ_le held, Nat.not_lt.2 held]
      · obtain rfl | beyond : k = hold ∨ hold < k := by omega
        · simp [brake]
        · have frames : k + 1 - hold = k - hold + 1 := by omega
          simp only [brake, held, not_false_eq_true, ne_eq, and_true, or_false, if_false,
            if_pos (show hold < k + 1 by omega), if_neg (show ¬k ≤ hold by omega), frames, Nat.mul_succ, Nat.sub_sub]

end

section
variable {u : AllotmentUnit}

/-- An absent demand is not supervised (R112). -/
theorem AllotmentUnit.superviseDemand_absent (absent : u.demand = none) : u.superviseDemand = (u, []) := by
  simp only [AllotmentUnit.superviseDemand, absent]

/-- A present demand ages and decays, and at or above the cutoff it is silent, with DEMAND_SILENT raised where the flag
was clear (R114, R115). -/
theorem AllotmentUnit.superviseDemand_present {d : DemandRecord} (present : u.demand = some d) :
    let grown := d.grow u.demandSettings.holdFrames u.demandSettings.staleDecay
    let cutoff := u.demandSettings.cutoffFrames
    u.superviseDemand =
      ({ u with demand := some { grown with silent := d.silent || decide (cutoff ≤ grown.age) } },
        if cutoff ≤ grown.age ∧ d.silent = false then [⟨.demandSilent, .advisory, .absent⟩] else []) := by
  intro grown cutoff
  have kept : grown.silent = d.silent := by simp only [grown, DemandRecord.grow_eq]
  by_cases falls : cutoff ≤ grown.age ∧ d.silent = false
  · have silent : grown.fallsSilent cutoff = true := (grown.fallsSilent_iff cutoff).2 (kept ▸ falls)
    simp only [AllotmentUnit.superviseDemand, present, grown, cutoff] at silent falls ⊢
    rw [if_pos silent, if_pos falls, decide_eq_true falls.1, Bool.or_true]
  · have heard : ¬grown.fallsSilent cutoff = true := fun silent => falls (kept ▸ (grown.fallsSilent_iff cutoff).1 silent)
    have flag : (d.silent || decide (cutoff ≤ grown.age)) = grown.silent := by
      cases silent : d.silent
      · have early : ¬cutoff ≤ grown.age := fun late => falls ⟨late, silent⟩
        simp [early, kept, silent]
      · simp [kept, silent]
    rw [flag, if_neg falls]
    simp only [AllotmentUnit.superviseDemand, present, grown, cutoff] at heard ⊢
    rw [if_neg heard]

end

/-- Settles O43, by induction on the number of expiries, and by the supervision of an absent and of a present demand. -/
theorem staleDemandDecaysAndFallsSilent : Obligations.StaleDemandDecaysAndFallsSilent := by
  refine ⟨fun mode received hold decay k bound => ?_, fun u => ⟨AllotmentUnit.superviseDemand_absent, ?_⟩⟩
  · dsimp only
    rw [DemandRecord.grow_iterate hold decay mode received k bound]
    exact ⟨rfl, rfl, rfl, rfl⟩
  · intro d present aged held
    rw [AllotmentUnit.superviseDemand_present present, DemandRecord.grow_eq]
    exact ⟨rfl, rfl, rfl⟩

/-! ## The overdraw comparison (R118, R119) -/

/-- A flag that is set where it is clear and its threshold reached stands where either holds (R119). -/
theorem raiseFlag_set (flag reached : Bool) : (flag || (reached && !flag)) = (flag || reached) := by
  cases flag <;> simp

section
variable {u : AllotmentUnit} {draw : Int} {current : Option Nat}

/-- The comparison is left out after a cut and in the frame after one (R118). -/
theorem AllotmentUnit.superviseDraw_cut (cut : u.cutMark = true ∨ u.afterCut = true) :
    u.superviseDraw draw current = ({ u with afterCut := u.cutMark, cutMark := false }, []) := by
  simp only [AllotmentUnit.superviseDraw, Bool.or_eq_true, if_pos cut]

/-- A draw within the grant and its tolerance returns the count to 0 and clears both flags (R118, R119). -/
theorem AllotmentUnit.superviseDraw_within (uncut : u.cutMark = false) (settled : u.afterCut = false)
    (within : draw ≤ (u.record.lineDraw : Int) + u.demandSettings.tol) :
    u.superviseDraw draw current =
      ({ u with afterCut := u.cutMark, cutMark := false, overdraw := 0, warn := false, persist := false }, []) := by
  have kept : ¬draw > (u.record.lineDraw + u.demandSettings.tol : Nat) := by push_cast; omega
  simp only [AllotmentUnit.superviseDraw, uncut, settled, Bool.or_false, Bool.false_eq_true, if_false, if_neg kept]

/-- A draw above the grant and its tolerance counts, and each threshold that the count has reached sets its flag and,
where the flag was clear, raises its event, OVERDRAW first (R118, R119). -/
theorem AllotmentUnit.superviseDraw_above (uncut : u.cutMark = false) (settled : u.afterCut = false)
    (above : (u.record.lineDraw : Int) + u.demandSettings.tol < draw) :
    let count := min (u.overdraw + 1) 65535
    let f := u.demandSettings
    u.superviseDraw draw current =
      ({ u with afterCut := u.cutMark, cutMark := false, overdraw := count
                warn := u.warn || decide (f.odWarn ≤ count), persist := u.persist || decide (f.odStop ≤ count) },
        (if f.odWarn ≤ count ∧ u.warn = false then [⟨.overdraw, .advisory, .sectionId current⟩] else []) ++
          (if f.odStop ≤ count ∧ u.persist = false then
            [⟨.overdrawPersist, .stopping, .sectionId current⟩] else [])) := by
  have exceeds : draw > (u.record.lineDraw + u.demandSettings.tol : Nat) := by push_cast; omega
  simp only [AllotmentUnit.superviseDraw, uncut, settled, Bool.or_false, Bool.false_eq_true, if_false, if_pos exceeds,
    raiseFlag_set, Bool.and_eq_true, decide_eq_true_eq, Bool.not_eq_true']
  rfl

end

/-- Settles O44, by the three outcomes of the comparison. -/
theorem overdrawIsCountedAndRaised : Obligations.OverdrawIsCountedAndRaised := by
  intro u draw current after r g count marked
  refine ⟨AllotmentUnit.superviseDraw_cut, AllotmentUnit.superviseDraw_within, fun uncut settled above => ?_⟩
  intro warns stops
  have outcome : after = _ := AllotmentUnit.superviseDraw_above uncut settled above
  have events : after.2 = (if warns then [⟨.overdraw, .advisory, .sectionId current⟩] else []) ++
      (if stops then [⟨.overdrawPersist, .stopping, .sectionId current⟩] else []) := congrArg Prod.snd outcome
  refine ⟨congrArg (·.1.overdraw) outcome, ?_, ?_, ?_, ?_, ?_, ?_⟩
  · rw [outcome, Bool.or_eq_true, decide_eq_true_iff]
  · rw [outcome, Bool.or_eq_true, decide_eq_true_iff]
  · exact fun warn stop => by rw [events, if_pos warn, if_pos stop]; rfl
  · exact fun warn stop => by rw [events, if_pos warn, if_neg stop]; rfl
  · exact fun warn stop => by rw [events, if_neg warn, if_pos stop]; rfl
  · exact fun warn stop => by rw [events, if_neg warn, if_neg stop]; rfl

/-! ## DEMAND and TRACTION_INHIBIT (R113, R116, R117) -/

/-- A mode byte above 2 names no demand mode (R113, R181). -/
theorem demandModeOf_none (b : Byte) (h : 2 < b.toNat) : demandModeOf b = none := by
  unfold demandModeOf
  split
  case h_4 => rfl
  all_goals omega

/-- DEMAND reaches its block from a TRACTION port and is refused to every other role (R113). -/
theorem State.actRequest_of_traction {s : State} {p : PortId} (h : s.Hears p) (tag : Byte) (take : State → Answer) :
    (s.role p = .traction → s.actRequest p 0x10 tag take =
      .next ((take (s.hunt p)).state.answered p 0x10 tag (take (s.hunt p)).code (take (s.hunt p)).content)) ∧
    (s.role p ≠ .traction → s.actRequest p 0x10 tag take = .next ((s.hunt p).answered p 0x10 tag .roleRefused)) :=
  ⟨fun own => s.actRequest_of_takes p 0x10 tag take h (by rw [own]; rfl),
    fun other => s.actRequest_of_refused p 0x10 tag take h (by simp [Role.permits, other])⟩

section
variable (s : State)

/-- A DEMAND that names a mode is stored fresh with its magnitude, 800 at most (R113). -/
theorem answerDemand_named {mode : Byte} {m : DemandMode} (named : demandModeOf mode = some m) (magnitude : Half) :
    answerDemand mode magnitude s =
      { state := { s with allot := { s.allot with
          demand := some ⟨m, min magnitude.toNat 800, min magnitude.toNat 800, 0, false⟩ } }
        code := if 800 < magnitude.toNat then .clamped else .ok } := by
  have stored : min 800 magnitude.toNat = min magnitude.toNat 800 := Nat.min_comm _ _
  have code : (if min magnitude.toNat 800 = magnitude.toNat then ReplyCode.ok else .clamped) =
      if 800 < magnitude.toNat then .clamped else .ok := by
    by_cases above : 800 < magnitude.toNat
    · rw [if_pos above, if_neg (by omega)]
    · rw [if_neg above, if_pos (by omega)]
  simp only [answerDemand, named, stored, code]

/-- TRACTION_INHIBIT naming the state in force leaves it with its source (R117). -/
theorem answerTractionInhibit_already {value : Byte} {b : Bool} (named : switchOf value = some b)
    (same : s.allot.inhibit.isSome = b) : answerTractionInhibit value s = s.refuse .already := by
  simp only [answerTractionInhibit, named, if_pos same]

/-- TRACTION_INHIBIT naming the other state stores it, SET with the source CAB (R116, R117). -/
theorem answerTractionInhibit_changed {value : Byte} {b : Bool} (named : switchOf value = some b)
    (change : s.allot.inhibit.isSome ≠ b) : answerTractionInhibit value s =
      ({ s with allot := { s.allot with inhibit := if b then some .cab else none } } : State).ok := by
  simp only [answerTractionInhibit, named, if_neg change]

end

/-- Settles O47: the role, the byte and the inhibit in force decide each answer. -/
theorem demandAndInhibitAreTaken : Obligations.DemandAndInhibitAreTaken := by
  refine ⟨fun p tag mode magnitude s hears => ?_, fun p tag value s hears => ?_⟩
  · intro h reply
    obtain ⟨own, other⟩ := State.actRequest_of_traction hears tag (answerDemand mode magnitude)
    refine ⟨other, fun role => ⟨fun above => ?_, fun m named => ?_⟩⟩
    · have format : answerDemand mode magnitude h = h.refuse .format := by
        simp only [answerDemand, demandModeOf_none mode above]
      exact (own role).trans (by rw [format]; rfl)
    · have known : demandModeOf mode = some m := by subst named; cases m <;> rfl
      exact (own role).trans (by rw [answerDemand_named _ known magnitude]; rfl)
  · intro h reply
    obtain ⟨cab, other⟩ := State.actRequest_of_cab hears 0x35 tag (answerTractionInhibit value) (by decide)
    have answered (role : s.role p = .cab) {u : State} {code : ReplyCode}
        (hx : answerTractionInhibit value h = { state := u, code := code }) : reply u code :=
      (cab role).trans (by rw [hx])
    refine ⟨other, fun role => ⟨fun above => ?_, ?_, ?_, ?_, ?_⟩⟩
    · have format : answerTractionInhibit value h = h.refuse .format := by
        simp only [answerTractionInhibit, switchOf_none value above]
      exact answered role format
    · rintro rfl clear
      exact answered role (answerTractionInhibit_changed h (b := true) rfl
        (by simp [show h.allot.inhibit = none from clear]))
    · rintro rfl set
      exact answered role (answerTractionInhibit_already h (b := true) rfl (Option.isSome_iff_ne_none.2 set))
    · rintro rfl set
      exact answered role (answerTractionInhibit_changed h (b := false) rfl
        (by simpa using show h.allot.inhibit ≠ none from set))
    · rintro rfl clear
      exact answered role (answerTractionInhibit_already h (b := false) rfl
        (by simp [show h.allot.inhibit = none from clear]))

end Sys2Proof.Machine

namespace Sys2Proof.Machine

/-! ## What the laws of the sequencer read of a slot (R123, R130, R133) -/

/-- The state of a slot's record; a slot without a record reads as one in IDLE, of which no law speaks. -/
def Sequencer.stateAt (a : Sequencer) (i : Slot) : AuxState := ((a.table[i]).map AuxRecord.state).getD .idle

/-- The stamp of a slot's record, if it has one. -/
def Sequencer.stampAt (a : Sequencer) (i : Slot) : Option Nat := (a.table[i]).bind AuxRecord.stamp

section
variable {a : Sequencer} {i : Slot} {r : AuxRecord} (held : a.table[i] = some r)
include held

theorem Sequencer.stateAt_of_held : a.stateAt i = r.state := by rw [Sequencer.stateAt, held]; rfl

theorem Sequencer.stampAt_of_held : a.stampAt i = r.stamp := by rw [Sequencer.stampAt, held]; rfl

theorem Sequencer.isEssential_of_held : a.isEssential i = (r.config.tier == .essential) := by
  rw [Sequencer.isEssential.eq_def]
  split
  · next q same => rw [held] at same; cases same; rfl
  · next absent => exact absurd (held.symm.trans absent) (by simp)

end

section
variable (a : Sequencer) (i j : Slot) (r : AuxRecord)

theorem Sequencer.put_stateAt : (a.put i r).stateAt j = if j = i then r.state else a.stateAt j := by
  split
  · next same => rw [same, Sequencer.stateAt_of_held (a.put_self i r)]
  · next other => rw [Sequencer.stateAt, a.put_other i r other]; rfl

theorem Sequencer.put_stampAt : (a.put i r).stampAt j = if j = i then r.stamp else a.stampAt j := by
  split
  · next same => rw [same, Sequencer.stampAt_of_held (a.put_self i r)]
  · next other => rw [Sequencer.stampAt, a.put_other i r other]; rfl

theorem Sequencer.put_isEssential :
    (a.put i r).isEssential j = if j = i then r.config.tier == .essential else a.isEssential j := by
  split
  · next same => rw [same, Sequencer.isEssential_of_held (a.put_self i r)]
  · next other =>
    rw [Sequencer.isEssential, a.put_other i r other]
    rfl

@[simp] theorem Sequencer.join_stateAt : (a.join i).stateAt j = a.stateAt j := by
  simp only [Sequencer.stateAt, Sequencer.join_table]

@[simp] theorem Sequencer.join_stampAt : (a.join i).stampAt j = a.stampAt j := by
  simp only [Sequencer.stampAt, Sequencer.join_table]

theorem Sequencer.join_isEssential : (a.join i).isEssential j = a.isEssential j := by
  simp only [Sequencer.isEssential, Sequencer.join_table]

@[simp] theorem Sequencer.put_queue : (a.put i r).queue = a.queue := rfl

/-- Outside IDLE the state read is that of a record. -/
theorem Sequencer.isIn_iff {x : AuxState} (active : x ≠ .idle) : a.isIn i x = true ↔ a.stateAt i = x := by
  rw [Sequencer.isIn.eq_def, Sequencer.stateAt]
  cases a.table[i] with
  | none => simpa using active.symm
  | some q => exact beq_iff_eq

end

/-! ## The stamps that a stop leaves (R130) -/

/-- A stamp once another, or none, is gone. -/
def stampAfter (gone : Option Nat) (m : Nat) : Nat :=
  match gone with
  | some n => if n < m then m - 1 else m
  | none => m

section
variable (a : Sequencer) (i : Slot) (r : AuxRecord) (j : Slot)

theorem Sequencer.released_table :
    (a.released i r).table[j] = (a.table[j]).map fun x => { x with stamp := x.stamp.map (stampAfter r.stamp) } := by
  unfold Sequencer.released
  cases hr : r.stamp with
  | none =>
    have same (o : Option Nat) : o.map (stampAfter none) = o := by cases o <;> rfl
    simp only [same]
    cases a.table[j] <;> rfl
  | some n =>
    simp only [Sequencer.releaseStamp, Fin.getElem_fin, Vector.getElem_ofFn]
    rfl

@[simp] theorem Sequencer.released_queue : (a.released i r).queue = a.queue := by
  unfold Sequencer.released
  cases r.stamp <;> rfl

@[simp] theorem Sequencer.released_stateAt : (a.released i r).stateAt j = a.stateAt j := by
  rw [Sequencer.stateAt, Sequencer.stateAt, a.released_table]
  cases a.table[j] <;> rfl

@[simp] theorem Sequencer.released_isEssential : (a.released i r).isEssential j = a.isEssential j := by
  cases held : a.table[j] with
  | none => simp only [Sequencer.isEssential, a.released_table, held, Option.map_none]
  | some q => simp only [Sequencer.isEssential, a.released_table, held, Option.map_some]

theorem Sequencer.released_stampAt : (a.released i r).stampAt j = (a.stampAt j).map (stampAfter r.stamp) := by
  rw [Sequencer.stampAt, Sequencer.stampAt, a.released_table]
  cases a.table[j] <;> rfl

end

/-! ## The ways in which the sequencer changes -/

/-- Nothing that the laws read changes, but for the tier and the stamp of records in IDLE. -/
structure Sequencer.Quiet (a b : Sequencer) : Prop where
  queue : b.queue = a.queue
  starting : b.starting = a.starting
  state : ∀ i, b.stateAt i = a.stateAt i
  stamp : ∀ i, b.stampAt i = a.stampAt i ∨ a.stateAt i = .idle ∧ b.stampAt i = none
  tier : ∀ i, a.stateAt i ≠ .idle → b.isEssential i = a.isEssential i

/-- The record at the head of the queue begins its inrush (R134). -/
def AuxRecord.started (r : AuxRecord) : AuxRecord :=
  { r with state := .starting, stalled := false, inrush := .running r.config.tIn }

/-- The head of the queue leaves it for the starting slot (R134). -/
def Sequencer.startHead (a : Sequencer) (i : Slot) (r : AuxRecord) : Sequencer :=
  { (a.leave i).put i r.started with starting := some i }

/-- A condition kept by every way in which the sequencer changes, `may` being what allows a COMFORT record to start
(R134). -/
structure AuxInvariant (may : Prop) (Q : Sequencer → Prop) : Prop where
  quiet : ∀ {a b : Sequencer}, Q a → a.Quiet b → Q b
  /-- A STARTING or RUNNING record stops and is held off (R131, R142). -/
  hold : ∀ {a : Sequencer}, Q a → ∀ {i r}, a.table[i] = some r → r.isOn = true → ∀ {target : AuxState},
    target = .cooldown ∨ target = .shed → ∀ want, Q ((a.released i r).put i (r.heldOff target want))
  /-- A record held off goes to IDLE (R132). -/
  rest : ∀ {a : Sequencer}, Q a → ∀ {i r}, a.table[i] = some r → r.state = .cooldown ∨ r.state = .shed →
    Q (a.put i (r.toIdle false))
  /-- A QUEUED record is stopped (R128). -/
  unqueue : ∀ {a : Sequencer}, Q a → ∀ {i r}, a.table[i] = some r → r.state = .queued →
    Q ((a.leave i).put i (r.toIdle false))
  /-- A record that is off joins the queue (R127, R132). -/
  enqueue : ∀ {a : Sequencer}, Q a → ∀ {i r}, a.table[i] = some r →
    r.state = .idle ∨ r.state = .cooldown ∨ r.state = .shed → ∀ {q : AuxRecord}, q.state = .queued →
    q.config = r.config → q.stamp = r.stamp → Q ((a.put i q).join i)
  /-- The head of the queue starts (R134). -/
  start : ∀ {a : Sequencer}, Q a → ∀ {i rest r}, a.starting = none → a.queue = i :: rest → a.table[i] = some r →
    (r.config.tier = .comfort → may) → Q (a.startHead i r)
  /-- The STARTING record runs (R129). -/
  run : ∀ {a : Sequencer}, Q a → ∀ {i r}, a.table[i] = some r → r.state = .starting → Q (a.inrushExpired i r)

theorem Sequencer.Quiet.of_table {a b : Sequencer} (table : b.table = a.table) (queue : b.queue = a.queue)
    (starting : b.starting = a.starting) : a.Quiet b where
  queue := queue
  starting := starting
  state i := by simp only [Sequencer.stateAt, table]
  stamp i := .inl (by simp only [Sequencer.stampAt, table])
  tier i _ := by simp only [Sequencer.isEssential, table]

/-- A record replaced by one of the same state, stamp and, outside IDLE, tier. -/
theorem Sequencer.Quiet.put {a : Sequencer} {i : Slot} {r q : AuxRecord} (held : a.table[i] = some r)
    (state : q.state = r.state) (stamp : q.stamp = r.stamp) (tier : r.state = .idle ∨ q.config.tier = r.config.tier) :
    a.Quiet (a.put i q) where
  queue := rfl
  starting := rfl
  state j := by
    rw [a.put_stateAt]
    split
    · next same => rw [same, Sequencer.stateAt_of_held held, state]
    · rfl
  stamp j := by
    rw [a.put_stampAt]
    split
    · next same => rw [same, Sequencer.stampAt_of_held held, stamp]; exact .inl rfl
    · exact .inl rfl
  tier j active := by
    rw [a.put_isEssential]
    split
    · next same =>
      subst same
      rw [Sequencer.stateAt_of_held held] at active
      rw [Sequencer.isEssential_of_held held, tier.resolve_left active]
    · rfl

/-- Every record changed alike, with its state, stamp and tier kept. -/
theorem Sequencer.Quiet.mapped {a b : Sequencer} (f : AuxRecord → AuxRecord)
    (table : ∀ i : Slot, b.table[i] = (a.table[i]).map f) (queue : b.queue = a.queue) (starting : b.starting = a.starting) (state : ∀ r, (f r).state = r.state)
    (stamp : ∀ r, (f r).stamp = r.stamp) (config : ∀ r, (f r).config = r.config) : a.Quiet b where
  queue := queue
  starting := starting
  state i := by
    rw [Sequencer.stateAt, Sequencer.stateAt, table]
    cases a.table[i] <;> simp [state]
  stamp i := by
    rw [Sequencer.stampAt, Sequencer.stampAt, table]
    cases a.table[i] <;> simp [stamp]
  tier i _ := by
    simp only [Sequencer.isEssential, table]
    cases a.table[i] <;> simp [config]

/-- An IDLE record, or none, replaced by an IDLE one without a stamp, or by none (R124, R126). -/
theorem Sequencer.Quiet.idle {a : Sequencer} {i : Slot} {x : Option AuxRecord} (was : a.stateAt i = .idle)
    (state : ∀ q, x = some q → q.state = .idle) (stamp : ∀ q, x = some q → q.stamp = none) :
    a.Quiet { a with table := a.table.set i x } := by
  have here : ({ a with table := a.table.set i x } : Sequencer).table[i] = x := by simp
  have there {j : Slot} (other : j ≠ i) : ({ a with table := a.table.set i x } : Sequencer).table[j] = a.table[j] := by
    have : i.val ≠ j.val := fun same => other (Fin.ext same.symm)
    simp [this]
  have off (j : Slot) : j ≠ i ∨ j = i := ne_or_eq j i
  refine ⟨rfl, rfl, fun j => ?_, fun j => ?_, fun j active => ?_⟩
  · obtain other | rfl := off j
    · simp only [Sequencer.stateAt, there other]
    · rw [was, Sequencer.stateAt, here]
      cases x <;> simp [state]
  · obtain other | rfl := off j
    · simp only [Sequencer.stampAt, there other, true_or]
    · refine .inr ⟨was, ?_⟩
      rw [Sequencer.stampAt, here]
      cases x <;> simp [stamp]
  · obtain other | rfl := off j
    · simp only [Sequencer.isEssential, there other]
    · exact absurd was active

section
variable {may : Prop} {Q : Sequencer → Prop} (h : AuxInvariant may Q) {a : Sequencer} (hs : Q a)
include h hs

theorem AuxInvariant.offExit {i : Slot} {r : AuxRecord} (held : a.table[i] = some r) : Q (a.offExit i r) := by
  unfold Sequencer.offExit
  split
  · next off =>
    split
    · exact h.enqueue hs held (.inr (.inl off)) rfl rfl rfl
    · exact h.rest hs held (.inl off)
  · next off =>
    split
    · exact h.enqueue hs held (.inr (.inr off)) rfl rfl rfl
    · exact h.rest hs held (.inr off)
  · exact hs

theorem AuxInvariant.stopTo {i : Slot} {r : AuxRecord} (held : a.table[i] = some r) (on : r.isOn = true)
    {target : AuxState} (off : target = .cooldown ∨ target = .shed) (want : Bool) : Q (a.stopTo i r target want) := by
  have stopped := h.hold hs held on off want
  rw [a.stopTo_eq]
  split
  · exact h.offExit stopped (Sequencer.put_self _ _ _)
  · exact stopped

omit hs in
theorem AuxInvariant.shedAll {l : List Slot} (distinct : l.Nodup) {a : Sequencer} (hs : Q a)
    (on : ∀ i ∈ l, ∃ r, a.table[i] = some r ∧ r.isOn = true) : Q (a.shedAll l) := by
  induction l generalizing a with
  | nil => exact hs
  | cons j l ih =>
    obtain ⟨fresh, distinct⟩ := List.nodup_cons.1 distinct
    obtain ⟨r, held, isOn⟩ := on j (by simp)
    rw [Sequencer.shedAll_cons l held]
    refine ih distinct (h.stopTo hs held isOn (.inr rfl) r.want) fun i listed => ?_
    obtain ⟨q, hq, isOn⟩ := on i (by simp [listed])
    have other : i ≠ j := fun same => fresh (same ▸ listed)
    obtain ⟨q', hq', restamped, -⟩ := (a.stopTo_restamps j r .shed r.want other).2 q hq
    exact ⟨q', hq', by rw [restamped]; exact isOn⟩

theorem AuxInvariant.cutShed : Q a.cutShed := by
  refine h.quiet (h.shedAll (a.byStamp_nodup _) hs fun i listed => ?_) (.of_table rfl rfl rfl)
  obtain ⟨r, held, comfortOn⟩ := (a.mem_byStamp _ i).1 listed
  exact ⟨r, held, (Bool.and_eq_true_iff.1 comfortOn).2⟩

/-- An eligible record is RUNNING (R141). -/
theorem AuxInvariant.countShortfall (shortfall : Nat) : Q (a.countShortfall shortfall) := by
  unfold Sequencer.countShortfall
  split
  · exact h.quiet hs (.of_table rfl rfl rfl)
  · split
    · obtain ⟨k, shed⟩ := Sequencer.shedUntil_eq shortfall (a.byStamp AuxRecord.eligible) 0 a
      refine h.quiet (a := a.frameShed shortfall) ?_ (.of_table rfl rfl rfl)
      rw [Sequencer.frameShed, shed]
      refine h.shedAll ((a.byStamp_nodup _).sublist (List.take_sublist k _)) hs fun i listed => ?_
      obtain ⟨r, held, eligible⟩ := (a.mem_byStamp _ i).1 (List.mem_of_mem_take listed)
      simp only [AuxRecord.eligible, Bool.and_eq_true, beq_iff_eq, and_assoc] at eligible
      exact ⟨r, held, by simp [AuxRecord.isOn, eligible.2.1]⟩
    · exact h.quiet hs (.of_table rfl rfl rfl)

theorem AuxInvariant.testHead (r : Record) (c : ContactState) (allowed : r.mode = .run → c = .contact → may) :
    Q (a.testHead r c) := by
  unfold Sequencer.testHead
  split
  · next free queue =>
    split
    · next x held =>
      split
      · next fits =>
        refine h.start hs free queue held fun comfort => ?_
        simp only [AuxRecord.fits, comfort, Bool.and_eq_true, beq_iff_eq] at fits
        exact allowed fits.1.1 fits.1.2
      · exact hs
    · exact hs
  · exact hs

end

end Sys2Proof.Machine

namespace Sys2Proof.Machine

/-! ## The law of the start queue and of the starting slot (R133, R134) -/

/-- What `Sequencer.Law` says, of the states read by slot, the order of the queue as that of two parts. -/
structure Sequencer.Lawful (a : Sequencer) : Prop where
  distinct : a.queue.Nodup
  queued : ∀ i, i ∈ a.queue ↔ a.stateAt i = .queued
  tiers : ∃ x y, a.queue = x ++ y ∧ (∀ j ∈ x, a.isEssential j = true) ∧ ∀ j ∈ y, a.isEssential j = false
  starting : ∀ i, a.starting = some i ↔ a.stateAt i = .starting

/-- The ESSENTIAL members stand ahead of the COMFORT ones exactly where a front part of the list is made of the former and
the rest of the latter. -/
theorem pairwise_ahead_iff {α : Type} (p : α → Bool) (l : List α) :
    l.Pairwise (fun i j => p j = true → p i = true) ↔
      ∃ x y, l = x ++ y ∧ (∀ j ∈ x, p j = true) ∧ ∀ j ∈ y, p j = false := by
  constructor
  · intro ahead
    induction l with
    | nil => exact ⟨[], [], rfl, by simp, by simp⟩
    | cons i l ih =>
      obtain ⟨first, ahead⟩ := List.pairwise_cons.1 ahead
      cases tier : p i with
      | true =>
        obtain ⟨x, y, split, front, back⟩ := ih ahead
        exact ⟨i :: x, y, by rw [split]; rfl, by simpa [tier] using front, back⟩
      | false =>
        have back : ∀ j ∈ l, p j = false := fun j hj => by
          cases later : p j with
          | false => rfl
          | true => exact absurd (first j hj later) (by simp [tier])
        exact ⟨[], i :: l, rfl, by simp, by simpa [tier] using back⟩
  · rintro ⟨x, y, rfl, front, back⟩
    refine List.pairwise_append.2 ⟨?_, ?_, fun i hi _ _ _ => front i hi⟩
    · exact List.pairwise_of_forall_mem_list fun i hi _ _ _ => front i hi
    · exact List.pairwise_of_forall_mem_list fun _ _ j hj later => absurd later (by simp [back j hj])

theorem Sequencer.law_iff (a : Sequencer) : a.Law ↔ a.Lawful := by
  have queued (i : Slot) := a.isIn_iff i (x := .queued) (by decide)
  have starting (i : Slot) := a.isIn_iff i (x := .starting) (by decide)
  simp only [Sequencer.Law, queued, starting, pairwise_ahead_iff]
  exact ⟨fun ⟨distinct, queued, tiers, starting⟩ => ⟨distinct, queued, tiers, starting⟩,
    fun ⟨distinct, queued, tiers, starting⟩ => ⟨distinct, queued, tiers, starting⟩⟩

/-- The starting slot once one record has left it. -/
theorem freed_eq_some {α : Type} [DecidableEq α] (x : Option α) (i j : α) :
    (if x = some i then none else x) = some j ↔ x = some j ∧ j ≠ i := by
  split
  · next here => simp [here, eq_comm]
  · next away => exact ⟨fun there => ⟨there, fun same => away (same ▸ there)⟩, And.left⟩

/-- The record that runs once its inrush is over (R129, R130). -/
def AuxRecord.ran (r : AuxRecord) (stamp : Nat) : AuxRecord :=
  { r with
    state := .running
    inrush := .stopped
    stamp := some stamp
    onTimer := if r.config.tOnMin = 0 then .expired else .running (r.config.tOnMin * 1000)
    runTimer := match r.config.mode, r.config.tRun with
      | .timed, some t => .running (t * 1000)
      | _, _ => .stopped }

/-- A record stands in a slot, and the others keep their state and their tier. -/
structure Sequencer.Places (a b : Sequencer) (i : Slot) (q : AuxRecord) : Prop where
  state : ∀ j, b.stateAt j = if j = i then q.state else a.stateAt j
  tier : ∀ j, b.isEssential j = if j = i then q.config.tier == .essential else a.isEssential j

section
variable (a : Sequencer) (i : Slot) (q : AuxRecord)

theorem Sequencer.places_put : a.Places (a.put i q) i q :=
  ⟨fun j => a.put_stateAt i j q, fun j => a.put_isEssential i j q⟩

theorem Sequencer.places_leave : a.Places ((a.leave i).put i q) i q :=
  ⟨((a.leave i).places_put i q).state, ((a.leave i).places_put i q).tier⟩

theorem Sequencer.places_join : a.Places ((a.put i q).join i) i q :=
  ⟨fun j => by rw [Sequencer.join_stateAt, a.put_stateAt], fun j => by rw [Sequencer.join_isEssential, a.put_isEssential]⟩

theorem Sequencer.places_start (r : AuxRecord) : a.Places (a.startHead i r) i r.started :=
  ⟨(a.places_leave i r.started).state, (a.places_leave i r.started).tier⟩

theorem Sequencer.places_run (r : AuxRecord) : a.Places (a.inrushExpired i r) i (r.ran (a.runningCount + 1)) :=
  ⟨fun j => Sequencer.put_stateAt _ i j _, fun j => Sequencer.put_isEssential _ i j _⟩

theorem Sequencer.places_hold (r : AuxRecord) : a.Places ((a.released i r).put i q) i q :=
  ⟨fun j => by rw [Sequencer.put_stateAt, Sequencer.released_stateAt],
    fun j => by rw [Sequencer.put_isEssential, Sequencer.released_isEssential]⟩

end

section
variable {a b : Sequencer} (h : a.Lawful)
include h

theorem Sequencer.Lawful.not_mem {i : Slot} (other : a.stateAt i ≠ .queued) : i ∉ a.queue :=
  fun listed => other ((h.queued i).1 listed)

/-- The order of the tiers rests on the members of the queue alone, and a filter keeps it. -/
theorem Sequencer.Lawful.tiers_filter (p : Slot → Bool) (queue : b.queue = a.queue.filter p)
    (tier : ∀ j ∈ b.queue, b.isEssential j = a.isEssential j) :
    ∃ x y, b.queue = x ++ y ∧ (∀ j ∈ x, b.isEssential j = true) ∧ ∀ j ∈ y, b.isEssential j = false := by
  obtain ⟨x, y, split, front, back⟩ := h.tiers
  rw [split, List.filter_append] at queue
  refine ⟨_, _, queue, fun j hj => ?_, fun j hj => ?_⟩
  · rw [tier j (by rw [queue]; exact List.mem_append_left _ hj)]
    exact front j (List.mem_of_mem_filter hj)
  · rw [tier j (by rw [queue]; exact List.mem_append_right _ hj)]
    exact back j (List.mem_of_mem_filter hj)

theorem Sequencer.Lawful.tiers_same (queue : b.queue = a.queue)
    (tier : ∀ j ∈ b.queue, b.isEssential j = a.isEssential j) :
    ∃ x y, b.queue = x ++ y ∧ (∀ j ∈ x, b.isEssential j = true) ∧ ∀ j ∈ y, b.isEssential j = false :=
  h.tiers_filter (fun _ => true) (by simp [queue]) tier

/-- A record neither in the queue nor brought into it changes; what it does to the starting slot is said apart. -/
theorem Sequencer.Lawful.changed {i : Slot} {q : AuxRecord} (placed : a.Places b i q) (queue : b.queue = a.queue)
    (was : a.stateAt i ≠ .queued) (is : q.state ≠ .queued)
    (starting : ∀ j, b.starting = some j ↔ b.stateAt j = .starting) : b.Lawful where
  distinct := queue ▸ h.distinct
  queued j := by
    rw [queue, placed.state]
    split
    · next same => exact iff_of_false (same ▸ h.not_mem was) is
    · exact h.queued j
  tiers := h.tiers_same queue fun j listed => by
    have other : j ≠ i := fun same => h.not_mem was (by rw [← queue, ← same]; exact listed)
    rw [placed.tier, if_neg other]
  starting := starting

/-- A record leaves the queue. -/
theorem Sequencer.Lawful.left {i : Slot} {q : AuxRecord} (placed : a.Places b i q)
    (queue : b.queue = a.queue.filter (· != i)) (is : q.state ≠ .queued)
    (starting : ∀ j, b.starting = some j ↔ b.stateAt j = .starting) : b.Lawful where
  distinct := queue ▸ h.distinct.filter _
  queued j := by
    rw [queue, List.mem_filter, bne_iff_ne, placed.state]
    split
    · next same => exact iff_of_false (fun listed => listed.2 same) is
    · next other => rw [← h.queued j, and_iff_left other]
  tiers := h.tiers_filter _ queue fun j listed => by
    rw [queue, List.mem_filter, bne_iff_ne] at listed
    rw [placed.tier, if_neg listed.2]
  starting := starting

/-- Neither the record that goes nor the one that comes is in STARTING, and the slot is left. -/
theorem Sequencer.Lawful.starting_same {i : Slot} {q : AuxRecord} (placed : a.Places b i q)
    (starting : b.starting = a.starting) (was : a.stateAt i ≠ .starting) (is : q.state ≠ .starting) (j : Slot) :
    b.starting = some j ↔ b.stateAt j = .starting := by
  rw [starting, placed.state, h.starting j]
  split
  · next same => exact iff_of_false (same ▸ was) is
  · rfl

/-- The slot is freed of a record that is no longer in STARTING (R129, R131). -/
theorem Sequencer.Lawful.starting_freed {i : Slot} {q : AuxRecord} (placed : a.Places b i q)
    (starting : b.starting = if a.starting = some i then none else a.starting) (is : q.state ≠ .starting) (j : Slot) :
    b.starting = some j ↔ b.stateAt j = .starting := by
  rw [starting, freed_eq_some, placed.state, h.starting j]
  split
  · next same => exact iff_of_false (fun there => there.2 same) is
  · next other => exact and_iff_left other

/-- A record joins the queue behind the last record of its tier. -/
theorem Sequencer.Lawful.joined {i : Slot} {q : AuxRecord} (was : a.stateAt i ≠ .queued)
    (unstarted : a.stateAt i ≠ .starting) (is : q.state = .queued) : ((a.put i q).join i).Lawful := by
  have absent := h.not_mem was
  have placed := a.places_join i q
  obtain ⟨x, y, split, front, back⟩ := h.tiers
  have tier (j : Slot) (hj : j ∈ x ++ y) : (a.put i q).isEssential j = a.isEssential j := by
    have other : j ≠ i := fun same => absent (by rw [split, ← same]; exact hj)
    rw [a.put_isEssential, if_neg other]
  have front' : ∀ j ∈ x, (a.put i q).isEssential j = true := fun j hj => by
    rw [tier j (by simp [hj])]
    exact front j hj
  have back' : ∀ j ∈ y, (a.put i q).isEssential j = false := fun j hj => by
    rw [tier j (by simp [hj])]
    exact back j hj
  have queue : ((a.put i q).join i).queue =
      if (a.put i q).isEssential i = true then (x ++ [i]) ++ y else x ++ (y ++ [i]) := by
    rw [(a.put i q).join_eq i x y split absent front' back']
    simp
  have perm : ((a.put i q).join i).queue.Perm (i :: a.queue) := by
    rw [queue, split]
    split
    · simp
    · rw [← List.append_assoc]
      exact List.perm_append_singleton i _
  refine ⟨perm.nodup_iff.2 (List.nodup_cons.2 ⟨absent, h.distinct⟩), fun j => ?_, ?_,
    h.starting_same placed (Sequencer.join_starting _ i) unstarted (by simp [is])⟩
  · rw [perm.mem_iff, List.mem_cons, placed.state]
    split
    · next same => exact iff_of_true (.inl same) is
    · next other => rw [or_iff_right other, h.queued j]
  · simp only [Sequencer.join_isEssential]
    rw [queue]
    split
    · next essential =>
      refine ⟨_, _, rfl, fun j hj => ?_, back'⟩
      obtain hj | hj := List.mem_append.1 hj
      · exact front' j hj
      · rw [List.mem_singleton.1 hj]
        exact essential
    · next comfort =>
      refine ⟨_, _, rfl, front', fun j hj => ?_⟩
      obtain hj | hj := List.mem_append.1 hj
      · exact back' j hj
      · rw [List.mem_singleton.1 hj]
        exact Bool.eq_false_iff.2 comfort

end

theorem lawful_invariant (may : Prop) : AuxInvariant may Sequencer.Lawful where
  quiet {a b} h same := by
    refine ⟨same.queue ▸ h.distinct, fun i => ?_, h.tiers_same same.queue fun j listed => same.tier j fun idle => ?_,
      fun i => ?_⟩
    · rw [same.queue, same.state]
      exact h.queued i
    · have queued := (h.queued j).1 (same.queue ▸ listed)
      exact absurd (idle.symm.trans queued) (by decide)
    · rw [same.starting, same.state]
      exact h.starting i
  hold {a} h {i r} held on {target} off want := by
    have placed := a.places_hold i (r.heldOff target want) r
    have was : a.stateAt i ≠ .queued := fun queued => by
      simp [AuxRecord.isOn, ← Sequencer.stateAt_of_held held, queued] at on
    have is : target ≠ .queued ∧ target ≠ .starting := by obtain rfl | rfl := off <;> decide
    exact h.changed placed (a.released_queue i r) was is.1
      (h.starting_freed placed (a.released_rest i r).2.1 is.2)
  rest {a} h {i r} held off := by
    have placed := a.places_put i (r.toIdle false)
    have was : a.stateAt i ≠ .queued ∧ a.stateAt i ≠ .starting := by
      rw [Sequencer.stateAt_of_held held]
      obtain off | off := off <;> simp [off]
    exact h.changed placed rfl was.1 nofun (h.starting_same placed rfl was.2 nofun)
  unqueue {a} h {i r} held queued := by
    have placed := a.places_leave i (r.toIdle false)
    have was : a.stateAt i ≠ .starting := by simp [Sequencer.stateAt_of_held held, queued]
    exact h.left placed rfl nofun (h.starting_same placed rfl was nofun)
  enqueue {a} h {i r} held off {q} state _ _ := by
    have was : a.stateAt i ≠ .queued ∧ a.stateAt i ≠ .starting := by
      rw [Sequencer.stateAt_of_held held]
      obtain off | off | off := off <;> simp [off]
    exact h.joined was.1 was.2 state
  start {a} h {i rest r} free queue held _ := by
    have placed := a.places_start i r
    refine h.left placed rfl nofun fun j => ?_
    show some i = some j ↔ _
    rw [placed.state]
    split
    · next same => exact iff_of_true (congrArg some same.symm) rfl
    · next other =>
      rw [← h.starting j, free]
      exact iff_of_false (fun same => other (Option.some.inj same).symm) nofun
  run {a} h {i r} held starts := by
    have placed := a.places_run i r
    have was : a.stateAt i ≠ .queued := by simp [Sequencer.stateAt_of_held held, starts]
    exact h.changed placed rfl was nofun (h.starting_freed placed rfl nofun)

end Sys2Proof.Machine

namespace Sys2Proof.Machine

/-! ## The law on the stamps (R130) -/

/-- The slots of the RUNNING records. -/
def Sequencer.runners (a : Sequencer) : Finset Slot := Finset.univ.filter fun i => a.stateAt i = .running

@[simp] theorem Sequencer.mem_runners (a : Sequencer) (i : Slot) : i ∈ a.runners ↔ a.stateAt i = .running := by
  simp [Sequencer.runners]

theorem Sequencer.runningCount_eq (a : Sequencer) : a.runningCount = a.runners.card := by
  have fold (p : Slot → Prop) [DecidablePred p] (l : List Slot) (k : Nat) :
      l.foldl (fun k i => if p i then k + 1 else k) k = k + (l.filter fun i => p i).length := by
    induction l generalizing k with
    | nil => rfl
    | cons i l ih =>
      rw [List.foldl_cons, ih, List.filter_cons]
      split <;> simp_all
      omega
  have counted : a.runningCount = slots.foldl (fun k i => if a.stateAt i = .running then k + 1 else k) 0 := by
    unfold Sequencer.runningCount
    congr 1
    funext k i
    rw [Sequencer.stateAt]
    cases a.table[i] <;> rfl
  rw [counted, fold, Nat.zero_add, Sequencer.runners, Finset.card_def, Finset.filter_val, Fin.univ_def]
  rfl

/-- What `Sequencer.StampLaw` says, of the states and stamps read by slot. -/
structure Sequencer.Stamped (a : Sequencer) : Prop where
  bears : ∀ i, (a.stampAt i).isSome = true ↔ a.stateAt i = .running
  range : ∀ i n, a.stampAt i = some n → 1 ≤ n ∧ n ≤ a.runners.card
  once : ∀ i j n, a.stampAt i = some n → a.stampAt j = some n → j = i

theorem Sequencer.stampAt_eq_some (a : Sequencer) (i : Slot) (n : Nat) :
    a.stampAt i = some n ↔ ∃ r, a.table[i] = some r ∧ r.stamp = some n := Option.bind_eq_some_iff

theorem Sequencer.stampLaw_iff (a : Sequencer) : a.StampLaw ↔ a.Stamped := by
  constructor
  · intro law
    refine ⟨fun i => ?_, fun i n stamp => ?_, fun i j n first second => ?_⟩
    · cases held : a.table[i] with
      | none => simp [Sequencer.stampAt, Sequencer.stateAt, held]
      | some r =>
        rw [Sequencer.stampAt_of_held held, Sequencer.stateAt_of_held held]
        exact (law i r held).1
    · obtain ⟨r, held, stamp⟩ := (a.stampAt_eq_some i n).1 stamp
      obtain ⟨low, high, -⟩ := (law i r held).2 n stamp
      exact ⟨low, a.runningCount_eq ▸ high⟩
    · obtain ⟨r, held, stamp⟩ := (a.stampAt_eq_some i n).1 first
      obtain ⟨q, held', stamp'⟩ := (a.stampAt_eq_some j n).1 second
      obtain ⟨-, -, once⟩ := (law i r held).2 n stamp
      exact once j q held' stamp'
  · intro h i r held
    have state := Sequencer.stateAt_of_held held
    have stamp := Sequencer.stampAt_of_held held
    refine ⟨state ▸ stamp ▸ h.bears i, fun n numbered => ?_⟩
    obtain ⟨low, high⟩ := h.range i n (stamp.trans numbered)
    refine ⟨low, a.runningCount_eq ▸ high, fun j q held' numbered' => ?_⟩
    exact h.once i j n (stamp.trans numbered) ((Sequencer.stampAt_of_held held').trans numbered')

section
variable {a b : Sequencer} (h : a.Stamped)
include h

theorem Sequencer.Stamped.none_of {i : Slot} (other : a.stateAt i ≠ .running) : a.stampAt i = none := by
  cases stamp : a.stampAt i with
  | none => rfl
  | some n => exact absurd ((h.bears i).1 (by simp [stamp])) other

/-- The law rests on which records run and on the stamps alone. -/
theorem Sequencer.Stamped.congr (stamp : ∀ i, b.stampAt i = a.stampAt i)
    (running : ∀ i, b.stateAt i = .running ↔ a.stateAt i = .running) : b.Stamped := by
  have runners : b.runners = a.runners := by
    ext i
    simp [running]
  refine ⟨fun i => ?_, fun i n => ?_, fun i j n => ?_⟩
  · rw [stamp, running]
    exact h.bears i
  · rw [stamp, runners]
    exact h.range i n
  · rw [stamp, stamp]
    exact h.once i j n

/-- A record that is not RUNNING gives way to another that is not, both without a stamp. -/
theorem Sequencer.Stamped.moved {i : Slot} {q : AuxRecord} (placed : a.Places b i q) (was : a.stateAt i ≠ .running)
    (is : q.state ≠ .running) (unstamped : b.stampAt i = none) (stamps : ∀ j, j ≠ i → b.stampAt j = a.stampAt j) :
    b.Stamped := by
  refine h.congr (fun j => ?_) fun j => ?_
  · by_cases same : j = i
    · rw [same, unstamped, h.none_of was]
    · exact stamps j same
  · rw [placed.state]
    split
    · next same => exact iff_of_false is (same ▸ was)
    · rfl

/-- A record that is not RUNNING is replaced by another that is not, with its stamp. -/
theorem Sequencer.Stamped.replaced {i : Slot} {r q : AuxRecord} (held : a.table[i] = some r) (placed : a.Places b i q)
    (was : r.state ≠ .running) (is : q.state ≠ .running) (kept : q.stamp = r.stamp)
    (stamps : ∀ j, b.stampAt j = if j = i then q.stamp else a.stampAt j) : b.Stamped := by
  have was : a.stateAt i ≠ .running := Sequencer.stateAt_of_held held ▸ was
  have unstamped : r.stamp = none := (Sequencer.stampAt_of_held held).symm.trans (h.none_of was)
  exact h.moved placed was is (by rw [stamps, if_pos rfl, kept, unstamped]) fun j other => by rw [stamps, if_neg other]

/-- A record takes the stamp above those given (R130). -/
theorem Sequencer.Stamped.ran {i : Slot} {q : AuxRecord} (placed : a.Places b i q) (was : a.stateAt i ≠ .running)
    (is : q.state = .running)
    (stamp : ∀ j, b.stampAt j = if j = i then some (a.runners.card + 1) else a.stampAt j) : b.Stamped := by
  have state := placed.state
  rw [is] at state
  have runners : b.runners = insert i a.runners := by
    ext j
    by_cases same : j = i <;> simp [state, same]
  have card : b.runners.card = a.runners.card + 1 := by
    rw [runners, Finset.card_insert_of_notMem (by simpa using was)]
  refine ⟨fun j => ?_, fun j n => ?_, fun j k n => ?_⟩
  · rw [state, stamp]
    split
    · simp
    · exact h.bears j
  · rw [stamp, card]
    split
    · rintro ⟨⟩
      omega
    · intro numbered
      obtain ⟨low, high⟩ := h.range j n numbered
      omega
  · rw [stamp, stamp]
    split <;> split
    · next first second => exact fun _ _ => second.trans first.symm
    · rintro ⟨⟩ numbered
      obtain ⟨-, high⟩ := h.range k _ numbered
      omega
    · rintro numbered ⟨⟩
      obtain ⟨-, high⟩ := h.range j _ numbered
      omega
    · exact h.once j k n

/-- The stamp of a record that stops goes, and those above it move down (R130). -/
theorem Sequencer.Stamped.stopped {i : Slot} {q : AuxRecord} (placed : a.Places b i q) {gone : Nat}
    (was : a.stampAt i = some gone) (is : q.state ≠ .running)
    (stamp : ∀ j, b.stampAt j = if j = i then none else (a.stampAt j).map (stampAfter (some gone))) : b.Stamped := by
  have running : a.stateAt i = .running := (h.bears i).1 (by simp [was])
  have runners : b.runners = a.runners.erase i := by
    ext j
    by_cases same : j = i <;> simp [placed.state, same, is]
  have card : b.runners.card = a.runners.card - 1 := by
    rw [runners, Finset.card_erase_of_mem (by simpa using running)]
  obtain ⟨goneLow, goneHigh⟩ := h.range i gone was
  have before {j : Slot} {n : Nat} (stamped : b.stampAt j = some n) : ∃ m, a.stampAt j = some m ∧ m ≠ gone ∧
      n = if gone < m then m - 1 else m := by
    rw [stamp] at stamped
    split at stamped
    · cases stamped
    · next other =>
      obtain ⟨m, numbered, after⟩ := Option.map_eq_some_iff.1 stamped
      exact ⟨m, numbered, fun same => other (h.once i j gone was (same ▸ numbered)), after.symm⟩
  refine ⟨fun j => ?_, fun j n stamped => ?_, fun j k n first second => ?_⟩
  · rw [stamp, placed.state]
    split
    · simpa using is
    · rw [← h.bears j, Option.isSome_map]
  · obtain ⟨m, numbered, apart, rfl⟩ := before stamped
    obtain ⟨low, high⟩ := h.range j m numbered
    split <;> omega
  · obtain ⟨m, numbered, apart, after⟩ := before first
    obtain ⟨m', numbered', apart', after'⟩ := before second
    have same : m' = m := by split at after <;> split at after' <;> omega
    exact h.once j k m numbered (same ▸ numbered')

end

/-- The law on the stamps, with the laws that it is given with: the head of the queue is a QUEUED record. -/
theorem stamped_invariant (may : Prop) : AuxInvariant may fun a => a.Lawful ∧ a.Stamped where
  quiet {a b} h same := by
    refine ⟨(lawful_invariant may).quiet h.1 same, h.2.congr (fun i => ?_) fun i => by rw [same.state]⟩
    obtain kept | ⟨idle, unstamped⟩ := same.stamp i
    · exact kept
    · rw [unstamped, h.2.none_of (by simp [idle])]
  hold {a} h {i r} held on {target} off want := by
    refine ⟨(lawful_invariant may).hold h.1 held on off want, ?_⟩
    have placed := a.places_hold i (r.heldOff target want) r
    have stamp := Sequencer.stampAt_of_held held
    have is : target ≠ .running := by obtain rfl | rfl := off <;> decide
    have stamps (j : Slot) : ((a.released i r).put i (r.heldOff target want)).stampAt j =
        if j = i then none else (a.stampAt j).map (stampAfter r.stamp) := by
      rw [Sequencer.put_stampAt, Sequencer.released_stampAt]
      rfl
    cases numbered : r.stamp with
    | some n => exact h.2.stopped placed (stamp.trans numbered) is (numbered ▸ stamps)
    | none =>
      have was : a.stateAt i ≠ .running := fun running => by
        simpa [stamp, numbered] using (h.2.bears i).2 running
      refine h.2.moved placed was is (by rw [stamps, if_pos rfl]) fun j other => ?_
      rw [stamps, if_neg other, numbered]
      cases a.stampAt j <;> rfl
  rest {a} h {i r} held off := by
    refine ⟨(lawful_invariant may).rest h.1 held off, ?_⟩
    exact h.2.replaced held (a.places_put i _) (by obtain off | off := off <;> simp [off]) nofun rfl
      fun j => a.put_stampAt i j _
  unqueue {a} h {i r} held queued := by
    refine ⟨(lawful_invariant may).unqueue h.1 held queued, ?_⟩
    exact h.2.replaced held (a.places_leave i _) (by simp [queued]) nofun rfl fun j => (a.leave i).put_stampAt i j _
  enqueue {a} h {i r} held off {q} state config stamp := by
    refine ⟨(lawful_invariant may).enqueue h.1 held off state config stamp, ?_⟩
    refine h.2.replaced held (a.places_join i q) (by obtain off | off | off := off <;> simp [off]) (by simp [state])
      stamp fun j => ?_
    rw [Sequencer.join_stampAt, a.put_stampAt]
  start {a} h {i rest r} free queue held allowed := by
    refine ⟨(lawful_invariant may).start h.1 free queue held allowed, ?_⟩
    have queued := (h.1.queued i).1 (by simp [queue])
    rw [Sequencer.stateAt_of_held held] at queued
    exact h.2.replaced held (a.places_start i r) (by simp [queued]) nofun rfl fun j => (a.leave i).put_stampAt i j _
  run {a} h {i r} held starts := by
    refine ⟨(lawful_invariant may).run h.1 held starts, h.2.ran (a.places_run i r) ?_ rfl fun j => ?_⟩
    · simp [Sequencer.stateAt_of_held held, starts]
    · rw [← a.runningCount_eq]
      exact Sequencer.put_stampAt _ i j _

end Sys2Proof.Machine

namespace Sys2Proof.Machine

/-! ## COMFORT records that are on (R143) -/

/-- A COMFORT record is in STARTING or RUNNING. -/
def Sequencer.ComfortRuns (a : Sequencer) : Prop := ∃ i : Slot, ((a.table[i]).any AuxRecord.comfortOn) = true

theorem Sequencer.comfortOn_iff (a : Sequencer) (i : Slot) : ((a.table[i]).any AuxRecord.comfortOn) = true ↔
    (a.stateAt i = .starting ∨ a.stateAt i = .running) ∧ a.isEssential i = false := by
  rw [Sequencer.stateAt, Sequencer.isEssential.eq_def]
  cases a.table[i] with
  | none => simp
  | some r => cases tier : r.config.tier <;> simp [AuxRecord.comfortOn, AuxRecord.isOn, tier]

/-- A record put in place brings a COMFORT record on only where it is one. -/
theorem Sequencer.Places.comfortRuns {a b : Sequencer} {i : Slot} {q : AuxRecord} (placed : a.Places b i q)
    (runs : b.ComfortRuns) : a.ComfortRuns ∨ q.comfortOn = true := by
  obtain ⟨j, on⟩ := runs
  rw [Sequencer.comfortOn_iff, placed.state, placed.tier] at on
  split at on
  · refine .inr (q.comfortOn_iff.2 ⟨?_, on.1⟩)
    cases tier : q.config.tier with
    | comfort => rfl
    | essential => simp [tier] at on
  · exact .inl ⟨j, (a.comfortOn_iff j).2 on⟩

theorem comfort_invariant (may : Prop) : AuxInvariant may fun a => a.ComfortRuns → may where
  quiet {a b} h same := by
    rintro ⟨i, on⟩
    rw [Sequencer.comfortOn_iff, same.state] at on
    refine h ⟨i, (a.comfortOn_iff i).2 ⟨on.1, ?_⟩⟩
    rw [← same.tier i (by obtain state | state := on.1 <;> simp [state]), on.2]
  hold {a} h {i r} _ _ {target} off want runs := by
    refine ((a.places_hold i (r.heldOff target want) r).comfortRuns runs).elim h fun on => ?_
    obtain ⟨-, state⟩ := (AuxRecord.comfortOn_iff _).1 on
    obtain rfl | rfl := off <;> exact absurd state (by simp [AuxRecord.heldOff])
  rest {a} h {i r} _ _ runs := ((a.places_put i (r.toIdle false)).comfortRuns runs).elim h fun on => by
    simp [AuxRecord.comfortOn, AuxRecord.isOn, AuxRecord.toIdle] at on
  unqueue {a} h {i r} _ _ runs := ((a.places_leave i (r.toIdle false)).comfortRuns runs).elim h fun on => by
    simp [AuxRecord.comfortOn, AuxRecord.isOn, AuxRecord.toIdle] at on
  enqueue {a} h {i r} _ _ {q} state _ _ runs := ((a.places_join i q).comfortRuns runs).elim h fun on => by
    simp [AuxRecord.comfortOn, AuxRecord.isOn, state] at on
  start {a} h {i rest r} _ _ _ allowed runs :=
    ((a.places_start i r).comfortRuns runs).elim h fun on => allowed ((AuxRecord.comfortOn_iff _).1 on).1
  run {a} h {i r} held starts runs := ((a.places_run i r).comfortRuns runs).elim h fun on => by
    obtain ⟨tier, -⟩ := (AuxRecord.comfortOn_iff _).1 on
    refine h ⟨i, ?_⟩
    rw [held]
    exact r.comfortOn_iff.2 ⟨tier, .inl starts⟩

/-- Cut shedding leaves no COMFORT record on (R143). -/
theorem Sequencer.cutShed_comfortRuns (a : Sequencer) : ¬a.cutShed.ComfortRuns := by
  rintro ⟨i, on⟩
  cases held : a.table[i] with
  | none => simp [a.cutShed_absent held] at on
  | some r =>
    by_cases taken : r.comfortOn = true
    · rw [a.cutShed_taken held taken] at on
      have off := r.stopped_isOn .shed r.want (.inr rfl)
      simp [AuxRecord.comfortOn, off] at on
    · obtain ⟨q, kept, same⟩ := a.cutShed_kept held taken
      rw [kept, same] at on
      exact taken on

/-! ## What the laws of the sequencer, the mode and the save rest on (R130, R133, R134, R143, R157, R163) -/

/-- The part of the state that these laws speak of: the sequencer, the contact state, the mode, whether a latch is
STOPPING, and the store. -/
structure SequencingView where
  aux : Sequencer
  contact : ContactState
  mode : Mode
  stopping : Bool
  store : Store

/-- What the laws see of a state. -/
def State.sequencingView (s : State) : SequencingView :=
  ⟨s.aux, s.contact.contact, s.router.mode, s.router.anyStopping, s.store⟩

/-- What `State.SaveLaw` says, of the store (R163). -/
def Store.Guarded (x : Store) : Prop := x.save.isSome = true → x.nv = .torn ∧ x.imageState = .writing

/-- A condition kept by every way in which the commands change what these laws speak of. -/
structure SequencingInvariant (P : SequencingView → Prop) : Prop where
  /-- The sequencer acts, a COMFORT record starting only in RUN with the line in contact (R134). -/
  aux : ∀ v : SequencingView, AuxInvariant (v.contact = .contact ∧ v.mode = .run) fun a => P { v with aux := a }
  /-- The line is lost and the cut sheds (R32, R143). -/
  lineLost : ∀ {v : SequencingView}, P v → ∀ c, P { v with contact := c, aux := v.aux.cutShed }
  /-- The contact state changes without the line, or the line returns (R32). -/
  offLine : ∀ {v : SequencingView}, P v → v.contact ≠ .contact → ∀ c, P { v with contact := c }
  /-- Entry to SETUP or HALT sheds with its mode cut (R89, R143). -/
  modeCut : ∀ {v : SequencingView}, P v → ∀ m, m ≠ .run → P { v with mode := m, aux := v.aux.cutShed }
  /-- Entry to RUN (R158). -/
  run : ∀ {v : SequencingView}, P v → v.stopping = false → P { v with mode := .run }
  /-- The fault table changes: no latch becomes STOPPING in RUN (R153, R154, R157). -/
  latches : ∀ {v : SequencingView}, P v → ∀ b, (v.mode = .run → v.stopping = false → b = false) →
    P { v with stopping := b }
  store : ∀ {v : SequencingView}, P v → ∀ x : Store, (v.store.Guarded → x.Guarded) → P { v with store := x }
  /-- Start-up (R35, R139, R167, R168). -/
  restart : ∀ (g : Image) (m : Mode) (b : Bool) (x : Store), (m = .run → b = false) → x.save = none →
    P ⟨.afterReset g, .offWire, m, b, x⟩

/-- After any reset every record is in COOLDOWN or IDLE, without a stamp (R139). -/
theorem AuxRecord.afterReset_off (c : AuxConfig) : ((AuxRecord.afterReset c).state = .cooldown ∨
    (AuxRecord.afterReset c).state = .idle) ∧ (AuxRecord.afterReset c).stamp = none := by
  refine ⟨?_, rfl⟩
  simp only [AuxRecord.afterReset]
  split
  · exact .inr rfl
  · exact .inl rfl

section
variable (g : Image) (i : Slot)

theorem Sequencer.afterReset_table : (Sequencer.afterReset g).table[i] = (g.auxTable[i]).map AuxRecord.afterReset := by
  simp [Sequencer.afterReset]

theorem Sequencer.afterReset_stateAt :
    (Sequencer.afterReset g).stateAt i = .cooldown ∨ (Sequencer.afterReset g).stateAt i = .idle := by
  rw [Sequencer.stateAt, Sequencer.afterReset_table]
  cases g.auxTable[i] with
  | none => exact .inr rfl
  | some c => exact (AuxRecord.afterReset_off c).1

theorem Sequencer.afterReset_stampAt : (Sequencer.afterReset g).stampAt i = none := by
  rw [Sequencer.stampAt, Sequencer.afterReset_table]
  cases g.auxTable[i] <;> rfl

end

theorem Sequencer.afterReset_lawful (g : Image) : (Sequencer.afterReset g).Lawful := by
  have off (i : Slot) (x : AuxState) (active : x ≠ .cooldown ∧ x ≠ .idle) : (Sequencer.afterReset g).stateAt i ≠ x := by
    obtain state | state := Sequencer.afterReset_stateAt g i <;> rw [state]
    · exact active.1.symm
    · exact active.2.symm
  exact ⟨List.nodup_nil, fun i => iff_of_false List.not_mem_nil (off i _ (by decide)), ⟨[], [], rfl, by simp, by simp⟩,
    fun i => iff_of_false nofun (off i _ (by decide))⟩

theorem Sequencer.afterReset_stamped (g : Image) : (Sequencer.afterReset g).Stamped := by
  have stamp := Sequencer.afterReset_stampAt g
  refine ⟨fun i => ?_, fun i n stamped => ?_, fun i j n stamped => ?_⟩
  · rw [stamp]
    obtain state | state := Sequencer.afterReset_stateAt g i <;> simp [state]
  · cases (stamp i).symm.trans stamped
  · cases (stamp i).symm.trans stamped

theorem Sequencer.afterReset_comfortRuns (g : Image) : ¬(Sequencer.afterReset g).ComfortRuns := by
  rintro ⟨i, on⟩
  rw [Sequencer.comfortOn_iff] at on
  obtain state | state := Sequencer.afterReset_stateAt g i <;> simp [state] at on

/-- A condition on the sequencer alone that its changes keep. -/
theorem SequencingInvariant.of_aux {Q : Sequencer → Prop} (h : ∀ may, AuxInvariant may Q)
    (restart : ∀ g, Q (.afterReset g)) : SequencingInvariant fun v => Q v.aux where
  aux _ := h _
  lineLost hs _ := (h True).cutShed hs
  offLine hs _ _ := hs
  modeCut hs _ _ := (h True).cutShed hs
  run hs _ := hs
  latches hs _ _ := hs
  store hs _ _ := hs
  restart g _ _ _ _ _ := restart g

/-- A condition of which the sequencer is no part. -/
theorem AuxInvariant.const (may C : Prop) : AuxInvariant may fun _ => C where
  quiet h _ := h
  hold h := fun _ _ _ _ _ => h
  rest h := fun _ _ => h
  unqueue h := fun _ _ => h
  enqueue h := fun _ _ _ _ _ _ => h
  start h := fun _ _ _ _ => h
  run h := fun _ _ => h

theorem comfort_view_invariant :
    SequencingInvariant fun v => v.aux.ComfortRuns → v.contact = .contact ∧ v.mode = .run where
  aux _ := comfort_invariant _
  lineLost {v} _ _ runs := absurd runs v.aux.cutShed_comfortRuns
  offLine hs off _ runs := absurd (hs runs).1 off
  modeCut {v} _ _ _ runs := absurd runs v.aux.cutShed_comfortRuns
  run hs _ runs := ⟨(hs runs).1, rfl⟩
  latches hs _ _ := hs
  store hs _ _ := hs
  restart g _ _ _ _ _ runs := absurd runs (Sequencer.afterReset_comfortRuns g)

theorem run_view_invariant : SequencingInvariant fun v => v.mode = .run → v.stopping = false where
  aux v := .const _ (v.mode = .run → v.stopping = false)
  lineLost hs _ := hs
  offLine hs _ _ := hs
  modeCut _ _ off run := absurd run off
  run _ clear _ := clear
  latches hs _ kept run := kept run (hs run)
  store hs _ _ := hs
  restart _ _ _ _ clear _ := clear

theorem save_view_invariant : SequencingInvariant fun v => v.store.Guarded where
  aux v := .const _ v.store.Guarded
  lineLost hs _ := hs
  offLine hs _ _ := hs
  modeCut hs _ _ := hs
  run hs _ := hs
  latches hs _ _ := hs
  store hs _ kept := kept hs
  restart _ _ _ x _ none saving := by simp [none] at saving

end Sys2Proof.Machine

namespace Sys2Proof.Machine

/-! ## What leaves the view of the laws of sequencer, mode and save -/

/-- The view rests on four blocks. -/
theorem State.sequencingView_congr {s t : State} (aux : t.aux = s.aux) (contact : t.contact.contact = s.contact.contact)
    (router : t.router = s.router) (store : t.store = s.store) : t.sequencingView = s.sequencingView := by
  rw [State.sequencingView, aux, contact, router, store]
  rfl

section
variable (s : State)

@[simp] theorem State.queueTo_sequencingView (dest : PortId → Bool) (n : Notice) :
    (s.queueTo dest n).sequencingView = s.sequencingView := rfl
@[simp] theorem State.notify_sequencingView (n : Notice) : (s.notify n).sequencingView = s.sequencingView := rfl
@[simp] theorem State.beginWaiting_sequencingView : s.beginWaiting.sequencingView = s.sequencingView := rfl
@[simp] theorem State.publish_sequencingView : s.publish.sequencingView = s.sequencingView := rfl
@[simp] theorem State.hunt_sequencingView (p : PortId) : (s.hunt p).sequencingView = s.sequencingView := rfl
@[simp] theorem State.failFrame_sequencingView (p : PortId) (f : PortCounts → PortCounts) :
    (s.failFrame p f).sequencingView = s.sequencingView := rfl
@[simp] theorem State.placeSection_sequencingView (c : Option Nat) :
    (s.placeSection c).sequencingView = s.sequencingView := rfl

@[simp] theorem State.takeLimits_sequencingView (l : Limits) : (s.takeLimits l).sequencingView = s.sequencingView :=
  State.sequencingView_congr (by simp) (by simp) (by simp) (by simp)

@[simp] theorem State.handLimits_sequencingView : s.handLimits.sequencingView = s.sequencingView :=
  s.takeLimits_sequencingView _

@[simp] theorem State.handDefaultLimits_sequencingView : s.handDefaultLimits.sequencingView = s.sequencingView :=
  State.sequencingView_congr (by simp) (by simp) (by simp) (by simp)

@[simp] theorem State.takeBatteryCut_sequencingView : s.takeBatteryCut.sequencingView = s.sequencingView :=
  State.sequencingView_congr (by simp) (by simp) (by simp) (by simp)

@[simp] theorem State.takeBatteryLimit_sequencingView (i : Nat) :
    (s.takeBatteryLimit i).sequencingView = s.sequencingView :=
  State.sequencingView_congr (by simp) (by simp) (by simp) (by simp)

@[simp] theorem State.takeRestore_sequencingView : s.takeRestore.sequencingView = s.sequencingView :=
  State.sequencingView_congr (by simp) (by simp) (by simp) (by simp)

@[simp] theorem State.enterAlarm_sequencingView (k : AlarmKey) (c : Option ConditionClass) (b : ContactState) (n : Nat) :
    (s.enterAlarm k c b n).sequencingView = s.sequencingView :=
  State.sequencingView_congr (by simp) (by simp) (by simp) (by simp)

@[simp] theorem State.conditionEnd_sequencingView (k : AlarmKey) :
    (s.conditionEnd k).sequencingView = s.sequencingView :=
  State.sequencingView_congr (by simp) (by simp) (by simp) (by simp)

@[simp] theorem State.sectionSignals_sequencingView (b a : ContactState) :
    (s.sectionSignals b a).sequencingView = s.sequencingView :=
  State.sequencingView_congr (by simp) (by simp) (by simp) (by simp)

@[simp] theorem State.endLineLost_sequencingView (b a : ContactState) :
    (s.endLineLost b a).sequencingView = s.sequencingView :=
  State.sequencingView_congr (by simp) (by simp) (by simp) (by simp)

@[simp] theorem State.noticeContact_sequencingView (c : Bool) : (s.noticeContact c).sequencingView = s.sequencingView :=
  State.sequencingView_congr (by simp) (by simp) (by simp) (by simp)

@[simp] theorem State.setInhibit_sequencingView (x : InhibitSource) :
    (s.setInhibit x).sequencingView = s.sequencingView :=
  State.sequencingView_congr (by simp) (by simp) (by simp) (by simp)

@[simp] theorem State.writeSection_sequencingView (e : SectionEntry) :
    (s.writeSection e).sequencingView = s.sequencingView :=
  State.sequencingView_congr (by simp) (by simp) (by simp) (by simp)

@[simp] theorem State.writeSections_sequencingView (l : List SectionFields) :
    (s.writeSections l).1.sequencingView = s.sequencingView := by
  induction l generalizing s with
  | nil => rfl
  | cons f l ih =>
    simp only [State.writeSections]
    split
    · rfl
    · exact (ih _).trans (s.writeSection_sequencingView _)

@[simp] theorem State.answerFrame_sequencingView (p : PortId) (kind tag : Byte) (code : ReplyCode) :
    (s.answerFrame p kind tag code).sequencingView = s.sequencingView := by
  simp only [State.answerFrame]
  split <;> rfl

@[simp] theorem State.setFilter_sequencingView (m : MonitorId) (f : MonitorSetting → MonitorSetting) :
    (s.setFilter m f).sequencingView = s.sequencingView := by
  simp only [State.setFilter]
  split <;> rfl

@[simp] theorem answerPortStatus_sequencingView (named clear : Byte) :
    (answerPortStatus named clear s).state.sequencingView = s.sequencingView := by
  simp only [answerPortStatus]
  (repeat' split) <;> rfl

@[simp] theorem answerPoll_sequencingView (p : PortId) :
    (answerPoll p s).state.sequencingView = s.sequencingView := by
  simp only [answerPoll]
  split <;> rfl

@[simp] theorem answerDemand_sequencingView (mode : Byte) (magnitude : Half) :
    (answerDemand mode magnitude s).state.sequencingView = s.sequencingView := by
  simp only [answerDemand]
  split <;> rfl

@[simp] theorem answerBattery_sequencingView (value : Byte) :
    (answerBattery value s).state.sequencingView = s.sequencingView := by
  simp only [answerBattery]
  split
  · rfl
  · split
    · rfl
    · split
      · rfl
      · simp only [State.ok_state, State.takeBatteryCut_sequencingView]
        rfl

@[simp] theorem answerTractionInhibit_sequencingView (value : Byte) :
    (answerTractionInhibit value s).state.sequencingView = s.sequencingView := by
  simp only [answerTractionInhibit]
  (repeat' split) <;> rfl

@[simp] theorem answerRouteWrite_sequencingView (kind mask enable : Byte) :
    (answerRouteWrite kind mask enable s).state.sequencingView = s.sequencingView := by
  simp only [answerRouteWrite]
  (repeat' split) <;> rfl

@[simp] theorem answerAckAlarm_sequencingView (p : PortId) (n : Half) :
    (answerAckAlarm p n s).state.sequencingView = s.sequencingView := by
  simp only [answerAckAlarm]
  (repeat' split) <;> rfl

@[simp] theorem answerClearHistory_sequencingView : (answerClearHistory s).state.sequencingView = s.sequencingView := rfl

@[simp] theorem answerSetHistoryPolicy_sequencingView (policy : Byte) :
    (answerSetHistoryPolicy policy s).state.sequencingView = s.sequencingView := by
  simp only [answerSetHistoryPolicy]
  (repeat' split) <;> rfl

@[simp] theorem answerClearFlags_sequencingView : (answerClearFlags s).state.sequencingView = s.sequencingView := rfl

@[simp] theorem answerRaise_sequencingView : (answerRaise s).state.sequencingView = s.sequencingView := by
  simp only [answerRaise]
  split <;> rfl

@[simp] theorem answerSectionWrite_sequencingView (l : List SectionFields) :
    (answerSectionWrite l s).state.sequencingView = s.sequencingView := by
  simp only [answerSectionWrite]
  split
  · rfl
  · exact s.writeSections_sequencingView l

@[simp] theorem answerSectionErase_sequencingView :
    (answerSectionErase s).state.sequencingView = s.sequencingView := by
  simp only [answerSectionErase]
  split
  · rfl
  · split
    · exact State.handLimits_sequencingView _
    · rfl

@[simp] theorem answerSectionSet_sequencingView (id : Half) :
    (answerSectionSet id s).state.sequencingView = s.sequencingView := by
  simp only [answerSectionSet]
  split
  · rfl
  · split
    · rfl
    · exact State.handLimits_sequencingView _

@[simp] theorem answerSectionAhead_sequencingView (id : Half) :
    (answerSectionAhead id s).state.sequencingView = s.sequencingView := by
  simp only [answerSectionAhead]
  (repeat' split) <;> rfl

end

/-! ## What changes the view: the sequencer and its cut sheddings -/

section
variable (s : State)

@[simp] theorem State.setAux_sequencingView (a : Sequencer) :
    (s.setAux a).sequencingView = { s.sequencingView with aux := a } := by
  rw [State.sequencingView, State.aux_setAux, State.setAux_contact, State.setAux_router, State.setAux_store]
  rfl

@[simp] theorem State.takeModeCut_sequencingView (m : Mode) :
    (s.takeModeCut m).sequencingView = { s.sequencingView with aux := s.aux.cutShed } := by
  rw [State.takeModeCut, State.publish_sequencingView, State.shedOnCut, State.setAux_sequencingView]
  rfl

@[simp] theorem State.takeCut_sequencingView :
    s.takeCut.sequencingView = { s.sequencingView with aux := s.aux.cutShed } := by
  rw [State.takeCut, State.publish_sequencingView, State.shedOnCut, State.setAux_sequencingView]
  rfl

end

/-- An entry of the fault table replaced by one that is not STOPPING (R153, R154). -/
theorem Router.anyStopping_set (r : Router) (i : Fin 16) (f : FaultEntry) (clear : r.anyStopping = false)
    (passing : f.latch ≠ .stopping) : ({ r with faults := r.faults.set i f } : Router).anyStopping = false := by
  rw [Bool.eq_false_iff, ne_eq, Router.anyStopping_iff] at clear ⊢
  rintro ⟨j, stopping⟩
  by_cases same : i.val = j.val
  · simp only [Fin.getElem_fin, same, Vector.getElem_set_self] at stopping
    exact passing stopping
  · simp only [Fin.getElem_fin, Vector.getElem_set_ne _ _ same] at stopping
    exact clear ⟨j, stopping⟩

/-- An ADVISORY occurrence makes no latch STOPPING (R153). -/
theorem FaultEntry.record_passing (f : FaultEntry) (e : Event) (n : BitVec 32) (advisory : e.cls ≠ .stopping)
    (clear : f.latch ≠ .stopping) : (f.record e n).latch ≠ .stopping := by
  cases cls : e.cls with
  | stopping => exact absurd cls advisory
  | advisory => cases latch : f.latch <;> simp_all [FaultEntry.record, EventClass.latch, Latch.higher]

/-! ## What keeps a condition of the view: the signals, the router and the hand-over -/

section
variable {P : SequencingView → Prop} (h : SequencingInvariant P) {s : State} (hs : P s.sequencingView)
include h hs

/-- A change of the contact state, together with the cut or the restore that it sends (R32, R143). -/
theorem SequencingInvariant.lineSignals (u : ContactUnit) :
    P (({ s with contact := u } : State).lineSignals s.contact.contact u.contact).sequencingView := by
  simp only [State.lineSignals]
  split
  · next same =>
    have view : ({ s with contact := u } : State).sequencingView = s.sequencingView := by
      simp [State.sequencingView, same]
    rwa [view]
  · split
    · rw [State.takeCut_sequencingView]
      exact h.lineLost hs u.contact
    · next off =>
      have moved : P ({ s with contact := u } : State).sequencingView := h.offLine hs off u.contact
      split
      · rwa [State.takeRestore_sequencingView]
      · exact moved

theorem SequencingInvariant.lowerPoles : P s.lowerPoles.sequencingView := by
  rw [s.lowerPoles_eq _ rfl, State.noticeContact_sequencingView, State.endLineLost_sequencingView,
    State.sectionSignals_sequencingView]
  exact h.lineSignals (s := s.notify (.poleOrder .lower)) hs _

/-- Entry to a mode: to RUN with no STOPPING latch, to another with the cut (R89, R157). -/
theorem SequencingInvariant.changeMode (m : Mode) (c : ModeCause) (clear : m = .run → s.router.anyStopping = false) :
    P (s.changeMode m c).sequencingView := by
  simp only [State.changeMode, State.notify_sequencingView]
  split
  · next run =>
    subst run
    exact h.run hs (clear rfl)
  · next off =>
    rw [State.takeModeCut_sequencingView]
    exact h.modeCut hs m off

theorem SequencingInvariant.latchEvent (e : Event) : P (s.latchEvent e).sequencingView := by
  by_cases stops : s.StopsOn e
  · rw [s.latchEvent_stopping e stops, State.notify_sequencingView, State.takeModeCut_sequencingView]
    exact h.latches (h.modeCut hs .halt (by decide)) _ nofun
  · rw [s.latchEvent_passing e stops]
    refine h.latches hs _ fun run clear => Router.anyStopping_set s.router e.kind.index _ clear ?_
    have unlatched : (s.router.faults[e.kind.index]).latch ≠ .stopping := fun stopping =>
      Bool.eq_false_iff.1 clear (s.router.anyStopping_iff.2 ⟨_, stopping⟩)
    exact FaultEntry.record_passing _ e _ (fun stopping => stops ⟨run, stopping⟩) unlatched

theorem SequencingInvariant.handleEvent (e : Event) : P (s.handleEvent e).sequencingView := by
  have latched := h.latchEvent hs e
  simp only [State.handleEvent]
  split
  · next a _ =>
    cases a with
    | lowerPoles => exact h.lowerPoles latched
    | tractionInhibit x => simpa [State.perform] using latched
  · exact latched

omit hs in
theorem SequencingInvariant.handleEvents (es : List Event) {s : State} (hs : P s.sequencingView) :
    P (s.handleEvents es).sequencingView := by
  simp only [State.handleEvents]
  induction es generalizing s with
  | nil => exact hs
  | cons e es ih => exact ih (h.handleEvent hs e)

omit hs in
theorem SequencingInvariant.takeAlarms (b : ContactState) (n : Nat) (xs : List AlarmSignal) {s : State}
    (hs : P s.sequencingView) : P (xs.foldl (State.takeAlarm b n) s).sequencingView := by
  induction xs generalizing s with
  | nil => exact hs
  | cons x xs ih =>
    refine ih ?_
    cases x with
    | raised k c => exact h.handleEvent (s := s.enterAlarm k c b n) (by simpa using hs) _
    | ended k => simpa [State.takeAlarm] using hs

/-- A hand-over from the contact state before the event changes the view by its cut and by what its events do (R14, R32,
R143). -/
theorem SequencingInvariant.handOver (u before : ContactUnit) (n : Nat) (x : HandOver)
    (was : before.contact = s.contact.contact) :
    P (({ s with contact := u } : State).handOver before n x).sequencingView := by
  have event (t : State) (c : Prop) [Decidable c] (e : Event) (ht : P t.sequencingView) :
      P (if c then t.handleEvent e else t).sequencingView := by
    split
    · exact h.handleEvent ht e
    · exact ht
  have cut (t : State) (c : Prop) [Decidable c] (ht : P t.sequencingView) :
      P (if c then t.takeOvervoltageCut else t).sequencingView := by
    split
    · exact ht
    · exact ht
  have signalled := h.lineSignals hs (u.settle s.sections.gapOverride)
  simp only [State.handOver, State.noticeContact_sequencingView]
  refine event _ _ _ (event _ _ _ (h.takeAlarms _ _ _ ?_))
  rw [State.endLineLost_sequencingView]
  refine h.takeAlarms _ _ _ (cut _ _ ?_)
  rw [State.sectionSignals_sequencingView, was]
  exact signalled

/-! ## Sweeps, expiries and frames -/

theorem SequencingInvariant.sweep (codes : Vector RawCode 8) : P (s.sweep codes).sequencingView := by
  have measured := h.handleEvents (faultEvents (s.meas.takeCodes codes))
    (s := { s with meas := s.meas.complete (s.meas.takeCodes codes) }) hs
  rw [s.sweep_eq_handOver]
  exact h.handOver (s := s.sampled codes) measured _ _ _ _ rfl

theorem SequencingInvariant.seatExpired (p : Pole) : P (s.seatExpired p).sequencingView := by
  simp only [State.seatExpired]
  split
  · exact h.handOver hs _ _ _ _ rfl
  · exact hs

theorem SequencingInvariant.gapExpired : P s.gapExpired.sequencingView := by
  simp only [State.gapExpired]
  split
  · exact h.handOver hs _ _ _ _ rfl
  · exact hs

theorem SequencingInvariant.loweringExpired : P s.loweringExpired.sequencingView := by
  simp only [State.loweringExpired]
  split
  · exact h.handOver hs _ _ _ _ rfl
  · exact hs

theorem SequencingInvariant.windowExpired : P s.windowExpired.sequencingView := by
  simp only [State.windowExpired]
  split
  · exact hs
  · split
    · exact hs
    · split
      · exact hs
      · exact h.handleEvent (by simpa using hs) _

theorem SequencingInvariant.saveCompleted (agrees : Bool) : P (s.saveCompleted agrees).sequencingView := by
  simp only [State.saveCompleted]
  split
  · exact hs
  · exact h.store hs _ fun _ => nofun

/-- The sequencer's quiet changes. -/
theorem SequencingInvariant.quiet {a : Sequencer} (same : s.aux.Quiet a) : P { s.sequencingView with aux := a } :=
  (h.aux s.sequencingView).quiet hs same

/-- The stall timer's expiry marks a record and raises an event (R135). -/
theorem SequencingInvariant.stallExpired : P s.stallExpired.sequencingView := by
  have expired : P { s.sequencingView with aux := { s.aux with stall := .expired } } :=
    h.quiet hs (.of_table rfl rfl rfl)
  simp only [State.stallExpired]
  split
  · exact hs
  · split
    · exact expired
    · split
      · next r held =>
        split
        · exact expired
        · apply h.handleEvent
          exact (h.aux _).quiet expired (Sequencer.Quiet.put (r := r) held rfl rfl (.inr rfl))
      · exact expired

omit h in
theorem auxEvent_keeps_sequencingView (i : Slot) (due : AuxRecord → Bool) (f : AuxRecord → Sequencer)
    (acts : ∀ r, s.aux.table[i] = some r → due r = true → P { s.sequencingView with aux := f r }) :
    P (s.auxEvent i due f).sequencingView := by
  simp only [State.auxEvent]
  split
  · next r held =>
    split
    · next isDue =>
      rw [State.setAux_sequencingView]
      exact acts r held isDue
    · exact hs
  · exact hs

theorem SequencingInvariant.testEssential (r : Record) : P (s.testEssential r).sequencingView := by
  simp only [State.testEssential]
  split
  · split
    · exact hs
    · apply h.handleEvent
      exact h.quiet hs (.of_table rfl rfl rfl)
  · exact h.quiet hs (.of_table rfl rfl rfl)

/-- The head of the queue is tested against the mode and the contact state in which the record is published (R134). -/
theorem SequencingInvariant.takePublication (r : Record) (mode : r.mode = s.router.mode) :
    P (s.takePublication r).sequencingView := by
  have counted : P (s.setAux (s.aux.countShortfall r.shortfall)).sequencingView := by
    rw [State.setAux_sequencingView]
    exact (h.aux s.sequencingView).countShortfall hs r.shortfall
  have router := s.setAux_router (s.aux.countShortfall r.shortfall)
  rw [State.takePublication]
  generalize s.setAux (s.aux.countShortfall r.shortfall) = c at *
  obtain ⟨-, -, kept, -⟩ := c.testEssential_effect r
  have tested := h.testEssential counted r
  generalize c.testEssential r = t at *
  rw [State.setAux_sequencingView]
  refine (h.aux t.sequencingView).testHead tested r _ fun run contact => ⟨contact, ?_⟩
  exact kept.trans (by rw [router, ← mode, run])

/-- A frame expiry computes its record for the mode it finds (R73). -/
theorem SequencingInvariant.expireFrame : P s.expireFrame.sequencingView := by
  rw [s.expireFrame_events]
  apply h.handleEvents
  rw [State.publish_sequencingView]
  exact h.takePublication (s := s.installed) hs s.computed rfl

end

end Sys2Proof.Machine

namespace Sys2Proof.Machine

/-- A slot byte names a record of the table. -/
theorem Sequencer.named_held {a : Sequencer} {slot : Byte} {i : Slot} {r : AuxRecord}
    (named : a.named slot = some (i, r)) : a.table[i] = some r := by
  obtain ⟨j, -, held⟩ := Option.bind_eq_some_iff.1 named
  obtain ⟨q, held, same⟩ := Option.map_eq_some_iff.1 held
  cases same
  exact held

/-- The sequencer is put in place, and its orders told (R136). -/
theorem setAux_keeps_sequencingView {P : SequencingView → Prop} {s : State} {a : Sequencer}
    (ha : P { s.sequencingView with aux := a }) : P (s.setAux a).sequencingView := by
  rwa [State.setAux_sequencingView]

section
variable {P : SequencingView → Prop} (h : SequencingInvariant P) {s : State} (hs : P s.sequencingView)
include h hs

/-! ## The items and the requests -/

theorem SequencingInvariant.setEnable (m : MonitorId) (on : Bool) : P (s.setEnable m on).sequencingView := by
  simp only [State.setEnable]
  split
  · exact hs
  · exact h.handOver hs _ _ _ _ rfl

theorem SequencingInvariant.storeItem (v : Nat) (n : NumericItem) : P (n.store s v).sequencingView := by
  cases n with
  | startWaitMax | shedFrames => exact h.quiet hs (.of_table rfl rfl rfl)
  | iFeedDefault | iRgmaxDefault =>
    simp only [NumericItem.store, State.handDefaultLimits_sequencingView]
    exact hs
  | iBatMax =>
    simp only [NumericItem.store, State.takeBatteryLimit_sequencingView]
    exact hs
  | _ => exact hs

theorem SequencingInvariant.writeItem (v : Nat) (i : Item) : P (i.write s v).state.sequencingView := by
  have named {α : Type} (x : Option α) (store : α → State) (stored : ∀ a, P (store a).sequencingView) :
      P (storeNamed s x store).state.sequencingView :=
    storeNamed_keeps (P := fun t => P t.sequencingView) hs x store stored
  cases i with
  | numeric n => exact h.storeItem hs _ n
  | enable m => exact named _ _ (h.setEnable hs m)
  | filterMode m => exact named _ _ fun _ => by simpa using hs
  | decimation m => simpa [Item.write, storeLimited] using hs
  | autoRun => exact named _ _ fun _ => h.store hs _ id
  | sweepPeriod | framePeriod | readOnly => exact hs
  | boost | charge | rate | parity | polarity | duplex | role => exact named _ _ fun _ => hs

theorem SequencingInvariant.answerSetItem (item value : Half) :
    P (answerSetItem item value s).state.sequencingView := by
  simp only [Machine.answerSetItem]
  split
  · exact hs
  · split
    · exact hs
    · split
      · exact h.writeItem hs _ _
      · exact hs

theorem SequencingInvariant.answerRaiseFault (number cls : Byte) :
    P (answerRaiseFault number cls s).state.sequencingView := by
  simp only [Machine.answerRaiseFault]
  split
  · exact hs
  · split
    · exact h.handleEvent hs _
    · exact hs

/-- A latch cleared is not STOPPING (R154). -/
theorem SequencingInvariant.answerClearFault (kind : Byte) : P (answerClearFault kind s).state.sequencingView := by
  simp only [Machine.answerClearFault]
  split
  · exact hs
  · next k _ =>
    have cleared := h.latches hs
      ({ s.router with faults := s.router.faults.set k.index { s.router.faults[k.index] with latch := .none } } :
        Router).anyStopping fun _ clear => Router.anyStopping_set s.router k.index _ clear nofun
    split
    · exact hs
    · exact cleared
    · split
      · exact cleared
      · exact hs

theorem SequencingInvariant.answerMode (target : Byte) : P (answerMode target s).state.sequencingView := by
  simp only [Machine.answerMode, answerModeSetup, answerModeRun]
  split
  · split
    · exact hs
    · exact h.changeMode hs _ _ nofun
  · split
    · exact hs
    · exact hs
    · split
      · exact hs
      · split
        · exact hs
        · next clear =>
          split
          · exact hs
          · exact h.changeMode hs _ _ fun _ => by simpa using clear
  · exact hs

/-- A save in flight is being written (R163). -/
theorem SequencingInvariant.answerSave : P (answerSave s).state.sequencingView := by
  simp only [Machine.answerSave]
  split
  · exact hs
  · split
    · exact hs
    · exact h.store hs _ fun _ _ => ⟨rfl, rfl⟩

theorem SequencingInvariant.answerReset : P (answerReset s).state.sequencingView := by
  simp only [Machine.answerReset]
  split
  · exact hs
  · simp only [State.ok_state, State.abandonSave]
    split
    · exact hs
    · exact h.store hs _ fun _ => nofun

theorem SequencingInvariant.startAux {i : Slot} {r : AuxRecord} (held : s.aux.table[i] = some r) :
    P (s.startAux i r).state.sequencingView := by
  have wanted := setAux_keeps_sequencingView (h.quiet hs (Sequencer.Quiet.put (q := { r with want := true }) held rfl rfl (.inr rfl)))
  cases state : r.state with
  | idle =>
    simp only [State.startAux, state, State.ok_state]
    exact setAux_keeps_sequencingView ((h.aux s.sequencingView).enqueue hs held (.inl state) rfl rfl rfl)
  | cooldown =>
    simp only [State.startAux, state]
    split
    · exact hs
    · simpa only [state] using wanted
  | shed =>
    simp only [State.startAux, state]
    split
    · exact hs
    · split
      · exact hs
      · simpa only [state] using wanted
  | queued | starting | running =>
    simp only [State.startAux, state]
    exact hs

theorem SequencingInvariant.stopAux {i : Slot} {r : AuxRecord} (held : s.aux.table[i] = some r) :
    P (s.stopAux i r).state.sequencingView := by
  have unwanted := setAux_keeps_sequencingView (h.quiet hs (Sequencer.Quiet.put (q := { r with want := false }) held rfl rfl (.inr rfl)))
  have stopped (on : r.isOn = true) : P (s.setAux (s.aux.stopTo i r .cooldown false)).sequencingView :=
    setAux_keeps_sequencingView ((h.aux s.sequencingView).stopTo hs held on (.inl rfl) false)
  cases state : r.state with
  | idle =>
    simp only [State.stopAux, state]
    exact hs
  | cooldown | shed =>
    simp only [State.stopAux, state]
    split
    · simpa only [state, State.ok_state] using unwanted
    · exact hs
  | queued =>
    simp only [State.stopAux, state, State.ok_state]
    exact setAux_keeps_sequencingView ((h.aux s.sequencingView).unqueue hs held state)
  | starting | running =>
    simp only [State.stopAux, state, State.ok_state]
    exact stopped (by simp [AuxRecord.isOn, state])

theorem SequencingInvariant.answerAuxStart (slot : Byte) : P (answerAuxStart slot s).state.sequencingView := by
  simp only [Machine.answerAuxStart]
  split
  · next named => exact h.startAux hs (Sequencer.named_held named)
  · exact hs

theorem SequencingInvariant.answerAuxStop (slot : Byte) : P (answerAuxStop slot s).state.sequencingView := by
  simp only [Machine.answerAuxStop]
  split
  · next named => exact h.stopAux hs (Sequencer.named_held named)
  · exact hs

theorem SequencingInvariant.writeAux (i : Slot) (part : AuxConfig) (clamped : Bool) :
    P (s.writeAux i part clamped).state.sequencingView := by
  simp only [State.writeAux]
  split
  · next absent =>
    have idle : s.aux.stateAt i = .idle := by rw [Sequencer.stateAt, absent]; rfl
    exact setAux_keeps_sequencingView (h.quiet hs (Sequencer.Quiet.idle (x := some (.fresh part)) idle (by rintro _ ⟨⟩; rfl)
      (by rintro _ ⟨⟩; rfl)))
  · next r held =>
    split
    · next idle =>
      dsimp only
      exact setAux_keeps_sequencingView
        (h.quiet hs (Sequencer.Quiet.put (q := { r with config := part }) held rfl rfl (.inl idle)))
    · dsimp only
      exact setAux_keeps_sequencingView
        (h.quiet hs (Sequencer.Quiet.put (q := { r with pendingPart := some part }) held rfl rfl (.inr rfl)))

theorem SequencingInvariant.answerAuxWrite (slot : Byte) (f : AuxFields) :
    P (answerAuxWrite slot f s).state.sequencingView := by
  simp only [Machine.answerAuxWrite]
  split
  · exact hs
  · split
    · exact hs
    · split
      · exact hs
      · exact h.writeAux hs _ _ _

theorem SequencingInvariant.answerAuxRemove (slot : Byte) : P (answerAuxRemove slot s).state.sequencingView := by
  simp only [Machine.answerAuxRemove]
  split
  · exact hs
  · next i r named =>
    split
    · exact hs
    · split
      · next idle =>
        have was := (Sequencer.stateAt_of_held (Sequencer.named_held named)).trans idle
        have gone : s.aux.Quiet { s.aux with table := s.aux.table.set i none } :=
          .idle was (by simp) (by simp)
        rw [State.ok_state]
        exact setAux_keeps_sequencingView (h.quiet hs gone)
      · exact hs

/-! ## The ports -/

omit h in
theorem takeRequest_keeps_sequencingView (p : PortId) (kind tag : Byte) (good : Bool) (take : State → Answer)
    (ht : P (take s).state.sequencingView) : P (s.takeRequest p kind tag good take).sequencingView := by
  rcases s.takeRequest_cases p kind tag good take with ⟨_, e⟩ | ⟨_, _, e⟩ | ⟨_, _, _, e⟩ | ⟨_, _, _, e⟩ <;> rw [e]
  · exact hs
  · exact hs
  · exact hs
  · exact ht

theorem SequencingInvariant.takeCommand (i : Instr) : P (s.takeCommand i).sequencingView := by
  cases i with
  | auxStart => exact takeRequest_keeps_sequencingView hs _ _ _ _ _ (h.answerAuxStart hs _)
  | auxStop => exact takeRequest_keeps_sequencingView hs _ _ _ _ _ (h.answerAuxStop hs _)
  | auxWrite => exact takeRequest_keeps_sequencingView hs _ _ _ _ _ (h.answerAuxWrite hs _ _)
  | auxRemove => exact takeRequest_keeps_sequencingView hs _ _ _ _ _ (h.answerAuxRemove hs _)
  | setItem => exact takeRequest_keeps_sequencingView hs _ _ _ _ _ (h.answerSetItem hs _ _)
  | raiseFault => exact takeRequest_keeps_sequencingView hs _ _ _ _ _ (h.answerRaiseFault hs _ _)
  | clearFault => exact takeRequest_keeps_sequencingView hs _ _ _ _ _ (h.answerClearFault hs _)
  | lower => exact takeRequest_keeps_sequencingView hs _ _ _ _ _ (h.lowerPoles hs)
  | mode => exact takeRequest_keeps_sequencingView hs _ _ _ _ _ (h.answerMode hs _)
  | save => exact takeRequest_keeps_sequencingView hs _ _ _ _ _ (h.answerSave hs)
  | reset => exact takeRequest_keeps_sequencingView hs _ _ _ _ _ (h.answerReset hs)
  | readAllotment | readContact | readAlarms | readHistory | readFaults | readAux | readSection | readMeasure | readItem
  | portStatus | poll | demand | sectionWrite | sectionErase | sectionSet | sectionAhead | routeWrite | ackAlarm
  | clearHistory | setHistoryPolicy | clearFlags | check | raise | battery | tractionInhibit =>
    exact takeRequest_keeps_sequencingView hs _ _ _ _ _ (by simpa using hs)
  | _ => exact hs

theorem SequencingInvariant.takeByte (p : PortId) (b : Byte) (error : Bool) :
    P (s.takeByte p b error).sequencingView := by
  simp only [State.takeByte]
  split
  · exact hs
  · split
    · exact hs
    · split
      · split <;> exact hs
      · split <;> exact hs
      · split
        · exact hs
        · split
          · simp only [State.takeBody]
            split
            · simpa using hs
            · simpa using hs
            · apply h.takeCommand
              exact hs
          · exact hs

end

/-! ## Start-up, every command and every step -/

section
variable {P : SequencingView → Prop} (h : SequencingInvariant P)
include h

/-- Start-up leaves every record off, the contact state OFF_WIRE, no save in flight, and RUN as first mode only where no
latch is STOPPING (R35, R139, R167, R168). -/
theorem SequencingInvariant.startUp (s : State) : P s.startUp.sequencingView := by
  obtain ⟨faults, -, contact, -, aux, -, -, -, -, mode, store, -⟩ := s.startUp_startedFrom
  have clear : s.startUp.beginWaiting.router.mode = .run → s.startUp.beginWaiting.router.anyStopping = false := by
    intro run
    rw [mode] at run
    split at run
    · cases run
    · next clear => simpa using clear
  rw [← State.beginWaiting_sequencingView, State.sequencingView, contact, aux]
  exact h.restart _ _ _ _ clear (by rw [store])

variable {s t : State} (hs : P s.sequencingView)
include hs

theorem SequencingInvariant.endHold : P s.endHold.sequencingView := by
  simp only [State.endHold]
  split
  · exact h.startUp s
  · exact hs

theorem SequencingInvariant.transmitted (p : PortId) : P (s.transmitted p).sequencingView := by
  simp only [State.transmitted]
  split
  · split
    · exact hs
    · split
      · exact h.startUp _
      · exact hs
  · exact hs
  · exact hs

/-- A reset stops the timers of every record and abandons a save (R163, R165). -/
theorem SequencingInvariant.abandon : P s.abandon.sequencingView := by
  refine h.store (h.quiet hs (a := s.abandon.aux) ?_) s.abandon.store fun _ => nofun
  exact .mapped AuxRecord.timersStopped (fun i => by simp [State.abandon]) rfl rfl (fun _ => rfl) (fun _ => rfl)
    fun _ => rfl

/-- Time runs on the timers of every record and on a save in flight (R123, R163). -/
theorem SequencingInvariant.tick : P s.tick.sequencingView := by
  refine h.store (h.quiet hs (a := s.tick.aux) ?_) s.tick.store fun guarded saving => guarded ?_
  · exact .mapped AuxRecord.tick (fun i => by simp [State.tick]) rfl rfl (fun _ => rfl) (fun _ => rfl) fun _ => rfl
  · simpa [State.tick, State.sequencingView] using saving

omit h in
/-- An event keeps the condition where what it does to a part out of reset does. -/
theorem act_keeps_sequencingView {f : State → State} (hf : P (f s).sequencingView) (ht : s.act f = .next t) :
    P t.sequencingView := by
  simp only [State.act] at ht
  split at ht
  · cases ht
    exact hf
  · cases ht
    exact hs

omit h in
theorem actFrame_keeps_sequencingView {p : PortId} {f : State → State} (hf : P (f (s.hunt p)).sequencingView)
    (ht : s.actFrame p f = .next t) : P t.sequencingView := by
  refine act_keeps_sequencingView hs ?_ ht
  split
  · exact hs
  · exact hf

/-- The inrush timer's expiry (R129). -/
theorem SequencingInvariant.inrushExpiry (i : Slot) : P (s.auxEvent i
    (fun r => r.state == .starting && r.inrush.isRunning) fun r => s.aux.inrushExpired i r).sequencingView :=
  auxEvent_keeps_sequencingView hs i _ _ fun r held due => by
    simp only [Bool.and_eq_true, beq_iff_eq] at due
    exact (h.aux s.sequencingView).run hs held due.1

/-- The on-timer's expiry (R130). -/
theorem SequencingInvariant.onTimerExpiry (i : Slot) : P (s.auxEvent i (fun r => r.onTimer.isRunning)
    fun r => s.aux.put i { r with onTimer := .expired }).sequencingView :=
  auxEvent_keeps_sequencingView hs i _ _ fun r held _ =>
    h.quiet hs (Sequencer.Quiet.put (q := { r with onTimer := .expired }) held rfl rfl (.inr rfl))

/-- The run timer's expiry (R131). -/
theorem SequencingInvariant.runTimerExpiry (i : Slot) : P (s.auxEvent i
    (fun r => r.state == .running && r.runTimer.isRunning) fun r => s.aux.stopTo i r .cooldown false).sequencingView :=
  auxEvent_keeps_sequencingView hs i _ _ fun r held due => by
    simp only [Bool.and_eq_true, beq_iff_eq] at due
    exact (h.aux s.sequencingView).stopTo hs held (by simp [AuxRecord.isOn, due.1]) (.inl rfl) false

/-- The off-inhibit timer's expiry (R132). -/
theorem SequencingInvariant.offInhibitExpiry (i : Slot) : P (s.auxEvent i (fun r => r.offInhibit.isRunning)
    fun r => s.aux.offExit i r).sequencingView :=
  auxEvent_keeps_sequencingView hs i _ _ fun _ held _ => (h.aux s.sequencingView).offExit hs held

theorem SequencingInvariant.exec_keeps (i : Instr) (ht : exec i s = .next t) : P t.sequencingView := by
  cases hb : bodyOf i with
  | some x =>
    rw [exec_of_bodyOf i x hb] at ht
    exact actFrame_keeps_sequencingView hs (h.takeCommand (by simpa using hs) i) ht
  | none =>
    unfold exec at ht
    cases i with
    | inrushExpiry k => exact act_keeps_sequencingView hs (h.inrushExpiry hs k) ht
    | onTimerExpiry k => exact act_keeps_sequencingView hs (h.onTimerExpiry hs k) ht
    | runTimerExpiry k => exact act_keeps_sequencingView hs (h.runTimerExpiry hs k) ht
    | offInhibitExpiry k => exact act_keeps_sequencingView hs (h.offInhibitExpiry hs k) ht
    | sweepCompletion codes =>
      refine act_keeps_sequencingView hs ?_ ht
      split
      · exact h.sweep hs codes
      · exact hs
    | seatTimerExpiry p => exact act_keeps_sequencingView hs (h.seatExpired hs p) ht
    | gapTimerExpiry => exact act_keeps_sequencingView hs (h.gapExpired hs) ht
    | loweringTimerExpiry => exact act_keeps_sequencingView hs (h.loweringExpired hs) ht
    | windowExpiry => exact act_keeps_sequencingView hs (h.windowExpired hs) ht
    | frameExpiry =>
      refine act_keeps_sequencingView hs ?_ ht
      split
      · exact h.expireFrame hs
      · exact hs
    | recloseExpiry =>
      refine act_keeps_sequencingView hs ?_ ht
      split <;> exact hs
    | stallTimerExpiry => exact act_keeps_sequencingView hs (h.stallExpired hs) ht
    | saveCompletion agrees => exact act_keeps_sequencingView hs (h.saveCompleted hs agrees) ht
    | receiveGapTimeout p =>
      refine act_keeps_sequencingView hs ?_ ht
      split <;> exact hs
    | frameCheckFailed p failure => exact actFrame_keeps_sequencingView hs (by simpa using hs) ht
    | unknownRequest p tag kind => exact actFrame_keeps_sequencingView hs (by simpa using hs) ht
    | transmitComplete p => exact act_keeps_sequencingView hs (h.transmitted hs p) ht
    | byteReceived p b error => exact act_keeps_sequencingView hs (h.takeByte hs p b error) ht
    | powerOn | supplyLow =>
      cases ht
      exact h.abandon hs
    | retentionLost =>
      cases ht
      exact hs
    | supplyStableExpiry =>
      simp only [execSupplyStableExpiry] at ht
      split at ht <;> cases ht
      · apply h.endHold
        exact hs
      · exact hs
    | pinResetAssert =>
      simp only [execPinResetAssert] at ht
      split at ht <;> cases ht
      · exact hs
      · exact h.abandon hs
    | pinResetRelease =>
      simp only [execPinResetRelease] at ht
      split at ht <;> cases ht
      · apply h.endHold
        exact hs
      · exact hs
    | _ => cases hb

/-- A condition of the view that its changes keep is kept by every step. -/
theorem SequencingInvariant.step_keeps (ht : step s = .next t) : P t.sequencingView := by
  cases queue : s.pending with
  | nil =>
    simp only [step, queue] at ht
    cases ht
    exact h.tick hs
  | cons i rest =>
    simp only [step, queue] at ht
    exact h.exec_keeps (s := { s with pending := rest }) hs i ht

end

/-- Settles O54: the sequencer, the contact state, the mode, the latches and the store change only in the ways of
`SequencingInvariant`, and each of the five laws is kept by each of them. -/
theorem sequencerAndModeLawsAreKept : Obligations.SequencerAndModeLawsAreKept := by
  refine ⟨fun s t law ht => ?_, fun s t law stamps ht => ?_, fun s t comfort ht i on => ?_, fun s t run ht => ?_,
    fun s t save ht => ?_⟩
  · have kept := SequencingInvariant.of_aux lawful_invariant Sequencer.afterReset_lawful
    exact t.aux.law_iff.2 (kept.step_keeps (s.aux.law_iff.1 law) ht)
  · have kept := SequencingInvariant.of_aux stamped_invariant fun g =>
      ⟨Sequencer.afterReset_lawful g, Sequencer.afterReset_stamped g⟩
    exact t.aux.stampLaw_iff.2 (kept.step_keeps ⟨s.aux.law_iff.1 law, s.aux.stampLaw_iff.1 stamps⟩ ht).2
  · exact comfort_view_invariant.step_keeps (s := s) (fun ⟨j, runs⟩ => comfort j runs) ht ⟨i, on⟩
  · exact run_view_invariant.step_keeps (s := s) run ht
  · exact save_view_invariant.step_keeps (s := s) save ht

end Sys2Proof.Machine

namespace Sys2Proof.Machine

/-! ## What a stop leaves, slot by slot (R125, R128, R130 to R132, R142) -/

/-- The state that a stop takes a record to. -/
def offState (shed : Bool) : AuxState := if shed then .shed else .cooldown

/-- A record held off goes back to the queue where it is wanted, and from SHED where it restarts too (R132). -/
def AuxRecord.goesOn (r : AuxRecord) (shed want : Bool) : Bool := want && (!shed || r.config.autoRestart)

theorem Sequencer.mem_join (a : Sequencer) (i : Slot) : i ∈ (a.join i).queue := by
  unfold Sequencer.join
  split <;> simp [Sequencer.setQueue]

section
variable (a : Sequencer) (i : Slot) (r : AuxRecord) (shed want : Bool)

/-- The exit of a record that has just been held off (R132). -/
theorem Sequencer.offExit_heldOff : a.offExit i (r.heldOff (offState shed) want) =
    if r.goesOn shed want then (a.put i (r.heldOff (offState shed) want).toQueued).join i
    else a.put i ((r.heldOff (offState shed) want).toIdle false) := by
  cases shed with
  | false => simp [Sequencer.offExit, AuxRecord.heldOff, offState, AuxRecord.goesOn]
  | true => simp [Sequencer.offExit, AuxRecord.heldOff, offState, AuxRecord.goesOn, and_comm]

/-- A stop by what becomes of the record: held off, back to the queue, or to IDLE. -/
theorem Sequencer.stopTo_cases : let q := r.heldOff (offState shed) want
    let b := a.stopTo i r (offState shed) want
    (0 < r.config.tOffMin → b = (a.released i r).put i q) ∧
    (r.config.tOffMin = 0 → r.goesOn shed want = true → b = ((a.released i r).put i q.toQueued).join i) ∧
    (r.config.tOffMin = 0 → r.goesOn shed want = false → b = (a.released i r).put i (q.toIdle false)) := by
  have twice (x : AuxRecord) :
      ((a.released i r).put i (r.heldOff (offState shed) want)).put i x = (a.released i r).put i x := by
    simp [Sequencer.put]
  refine ⟨fun held => if_neg held.ne', fun exits on => ?_, fun exits off => ?_⟩
  · rw [a.stopTo_eq, if_pos exits, Sequencer.offExit_heldOff, if_pos on, twice]
  · rw [a.stopTo_eq, if_pos exits, Sequencer.offExit_heldOff, if_neg (by simp [off]), twice]

/-- The other records keep everything but a stamp above the one that goes (R130). -/
theorem Sequencer.stopTo_other {j : Slot} (other : j ≠ i) (target : AuxState) :
    (a.stopTo i r target want).table[j] =
      (a.table[j]).map fun x => { x with stamp := x.stamp.map (stampAfter r.stamp) } := by
  rw [← a.released_table i r j, a.stopTo_eq]
  split
  · rw [Sequencer.offExit_other _ _ _ other, Sequencer.put_other _ _ _ other]
  · rw [Sequencer.put_other _ _ _ other]

end

/-- Settles O50: a stop by what becomes of its record, and the other slots with their stamps. -/
theorem stopsFreeSlotAndStamp : Obligations.StopsFreeSlotAndStamp := by
  intro a i r shed want held b again
  obtain ⟨heldOff, queued, idle⟩ := a.stopTo_cases i r shed want
  refine ⟨(a.stopTo_rest i r (offState shed) want).2.1, ?_, fun j other x hx => ?_⟩
  · obtain zero | long := Nat.eq_zero_or_pos r.config.tOffMin
    · cases goes : again with
      | true =>
        have b_eq : b = _ := queued zero goes
        have wanted : want = true := (Bool.and_eq_true_iff.1 goes).1
        refine ⟨(r.heldOff (offState shed) want).toQueued, ?_, rfl, rfl, rfl, rfl, fun long => absurd zero long.ne',
          fun _ _ => ⟨rfl, wanted, rfl, rfl, ?_⟩, fun _ => nofun⟩
        · rw [b_eq, Sequencer.join_table, Sequencer.put_self]
        · rw [b_eq]
          exact Sequencer.mem_join _ i
      | false =>
        have b_eq : b = _ := idle zero goes
        refine ⟨(r.heldOff (offState shed) want).toIdle false, ?_, rfl, rfl, rfl, rfl, fun long => absurd zero long.ne',
          fun _ => nofun, fun _ _ => ⟨rfl, rfl, rfl, rfl, rfl, ?_⟩⟩
        · rw [b_eq, Sequencer.put_self]
        · rw [b_eq, Sequencer.put_queue, Sequencer.released_queue]
    · have b_eq : b = _ := heldOff long
      refine ⟨r.heldOff (offState shed) want, ?_, rfl, rfl, rfl, rfl,
        fun _ => ⟨rfl, rfl, if_neg long.ne', rfl, rfl, ?_⟩, fun zero => absurd zero long.ne',
        fun zero => absurd zero long.ne'⟩
      · rw [b_eq, Sequencer.put_self]
      · rw [b_eq, Sequencer.put_queue, Sequencer.released_queue]
  · exact ⟨{ x with stamp := x.stamp.map (stampAfter r.stamp) },
      (a.stopTo_other i r want other (offState shed)).trans (by rw [hx]; rfl), rfl, rfl, rfl, rfl⟩

end Sys2Proof.Machine

namespace Sys2Proof.Machine

/-! ## The configured part that AUX_WRITE carries (R122, R124) -/

/-- The byte of a named value of two is 0 or 1 (R181). -/
theorem byte_zero_or_one {b : Byte} (low : b.toNat ≤ 1) : b = 0 ∨ b = 1 := by
  have : b.toNat = 0 ∨ b.toNat = 1 := by omega
  exact this.imp BitVec.eq_of_toNat_eq BitVec.eq_of_toNat_eq

/-- The configured part of the fields, each brought into its range (R122, R124; auto_restart by log 13). -/
def carriedPart (f : AuxFields) : AuxConfig :=
  { tier := if f.tier = 0 then .essential else .comfort
    mode := if f.mode = 0 then .continuous else .timed
    iRun := max 1 (min f.iRun.toNat 200)
    iIn := max (max 1 (min f.iRun.toNat 200)) (min f.iIn.toNat 400)
    tIn := max 10 (min f.tIn.toNat 5000)
    tOnMin := min f.tOnMin.toNat 600
    tOffMin := min f.tOffMin.toNat 600
    tRun := if f.mode = 0 then none else some (max 1 (min f.tRun.toNat 3600))
    autoRestart := f.autoRestart == 1 }

/-- No field had to be brought into its range (R124). -/
def CarriedInRange (f : AuxFields) : Prop :=
  (carriedPart f).iRun = f.iRun.toNat ∧ (carriedPart f).iIn = f.iIn.toNat ∧ (carriedPart f).tIn = f.tIn.toNat ∧
    (carriedPart f).tOnMin = f.tOnMin.toNat ∧ (carriedPart f).tOffMin = f.tOffMin.toNat ∧
    (f.mode = 1 → (carriedPart f).tRun = some f.tRun.toNat)

section
variable {f : AuxFields}

theorem tierOf_low {b : Byte} (low : b.toNat ≤ 1) : tierOf b = some (if b = 0 then .essential else .comfort) := by
  obtain rfl | rfl := byte_zero_or_one low <;> rfl

theorem auxModeOf_low {b : Byte} (low : b.toNat ≤ 1) : auxModeOf b = some (if b = 0 then .continuous else .timed) := by
  obtain rfl | rfl := byte_zero_or_one low <;> rfl

theorem tierOf_none {b : Byte} (high : 1 < b.toNat) : tierOf b = none := by
  unfold tierOf
  split
  · omega
  · omega
  · rfl

theorem auxModeOf_none {b : Byte} (high : 1 < b.toNat) : auxModeOf b = none := by
  unfold auxModeOf
  split
  · omega
  · omega
  · rfl

theorem switchOf_low {b : Byte} (low : b.toNat ≤ 1) : switchOf b = some (b == 1) := by
  obtain rfl | rfl := byte_zero_or_one low <;> rfl

/-- The part is what the fields carry where their three named fields name values (R124). -/
theorem partOf_named (tier : f.tier.toNat ≤ 1) (mode : f.mode.toNat ≤ 1) (auto : f.autoRestart.toNat ≤ 1) :
    ∃ clamped, partOf f = some (carriedPart f, clamped) ∧ (clamped = false ↔ CarriedInRange f) := by
  rw [partOf, tierOf_low tier, auxModeOf_low mode, switchOf_low auto]
  refine ⟨_, congrArg some (Prod.ext ?_ rfl), ?_⟩
  · obtain is | is := byte_zero_or_one mode <;> simp [boundPart, carriedPart, clampNat, is]
  · obtain is | is := byte_zero_or_one mode <;>
      simp [boundPart, CarriedInRange, carriedPart, clampNat, is, and_assoc]

/-- A tier, mode or auto_restart byte above 1 names no value (R124). -/
theorem partOf_unnamed (high : 1 < f.tier.toNat ∨ 1 < f.mode.toNat ∨ 1 < f.autoRestart.toNat) : partOf f = none := by
  rw [partOf]
  split
  · next tier mode auto =>
    obtain high | high | high := high
    · cases tier.symm.trans (tierOf_none high)
    · cases mode.symm.trans (auxModeOf_none high)
    · cases auto.symm.trans (switchOf_none _ high)
  · rfl

end

/-! ## AUX_WRITE and AUX_REMOVE on a slot (R124, R126) -/

/-- A slot byte above 11 names no slot. -/
theorem slotOf_above {slot : Byte} (above : 11 < slot.toNat) : slotOf slot = none := by
  rw [slotOf, dif_neg (by omega)]

section
variable (s : State) (i : Slot)

/-- A part applied to a slot by its record's state: no order changes (R124, R136). -/
theorem State.writeAux_table (part : AuxConfig) (clamped : Bool) :
    let code : ReplyCode := if clamped then .clamped else .ok
    (s.aux.table[i] = none →
      s.writeAux i part clamped = ⟨{ s with aux := s.aux.put i (.fresh part) }, code, .none⟩) ∧
    (∀ r, s.aux.table[i] = some r → r.state = .idle →
      s.writeAux i part clamped = ⟨{ s with aux := s.aux.put i { r with config := part } }, code, .none⟩) ∧
    (∀ r, s.aux.table[i] = some r → r.state ≠ .idle →
      s.writeAux i part clamped = ⟨{ s with aux := s.aux.put i { r with pendingPart := some part } }, .deferred, .none⟩) := by
  have present {r : AuxRecord} (held : s.aux.table[i] = some r) : s.writeAux i part clamped =
      if r.state = .idle then
        ⟨s.setAux (s.aux.put i { r with config := part }), if clamped then .clamped else .ok, .none⟩
      else ⟨s.setAux (s.aux.put i { r with pendingPart := some part }), .deferred, .none⟩ := by
    rw [State.writeAux]
    split
    · next absent => exact absurd (held.symm.trans absent) nofun
    · next q other =>
      cases held.symm.trans other
      rfl
  have told {r q : AuxRecord} (held : s.aux.table[i] = some r) (on : q.isOn = r.isOn) :
      s.setAux (s.aux.put i q) = { s with aux := s.aux.put i q } :=
    s.setAux_same_orders _ (s.aux.put_orders i q (by rw [held, on]; rfl))
  refine ⟨fun absent => ?_, fun r held idle => ?_, fun r held busy => ?_⟩
  · have quiet : s.setAux (s.aux.put i (.fresh part)) = { s with aux := s.aux.put i (.fresh part) } :=
      s.setAux_same_orders _ (s.aux.put_orders i _ (by rw [absent]; rfl))
    rw [State.writeAux]
    split
    · rw [quiet]
    · next q held => exact absurd (absent.symm.trans held) nofun
  · rw [present held, if_pos idle, told held (q := { r with config := part }) rfl]
  · rw [present held, if_neg busy, told held (q := { r with pendingPart := some part }) rfl]

/-- An IDLE record removed leaves the orders as they were (R126, R136). -/
theorem Sequencer.remove_orders (a : Sequencer) {r : AuxRecord} (held : a.table[i] = some r) (idle : r.state = .idle) :
    ({ a with table := a.table.set i none } : Sequencer).orders = a.orders := by
  simp only [Sequencer.orders]
  ext j hj
  simp only [Vector.getElem_ofFn, Fin.getElem_fin, Vector.getElem_set]
  by_cases same : i.val = j
  · subst same
    simp only [Fin.getElem_fin] at held
    simp [held, AuxRecord.isOn, idle]
  · simp [same]

end

/-- Settles O51: the checks of the two requests in their order, and the slot's record by its state. -/
theorem auxWriteAndRemoveKeepTheTable : Obligations.AuxWriteAndRemoveKeepTheTable := by
  refine ⟨fun p tag slot f s hears => ?_, fun p tag slot s hears => ?_⟩
  · intro h a reply
    obtain ⟨cab, other⟩ := State.actRequest_of_cab hears 0x21 tag (answerAuxWrite slot f) (by decide)
    have answered (role : s.role p = .cab) {x : Answer} (hx : answerAuxWrite slot f h = x) :
        exec (.auxWrite p tag slot f) s = .next (x.state.answered p 0x21 tag x.code x.content) :=
      (cab role).trans (by rw [hx])
    refine ⟨other, fun role => ⟨fun above => ?_, fun i same => ?_⟩⟩
    · exact answered role (x := h.refuse .noSuch) (by rw [answerAuxWrite, slotOf_above above])
    have named := slotOf_eq slot i same
    refine ⟨fun halt => ?_, fun mode high => ?_, fun mode tier auxMode auto => ?_⟩
    · exact answered role (x := h.refuse .modeRefused) (by
        simp only [answerAuxWrite, named]
        exact if_pos halt)
    · exact answered role (x := h.refuse .format) (by
        simp only [answerAuxWrite, named, partOf_unnamed high]
        exact if_neg mode)
    · obtain ⟨clamped, carried, iff_kept⟩ := partOf_named tier auxMode auto
      have written : answerAuxWrite slot f h = h.writeAux i (carriedPart f) clamped := by
        simp only [answerAuxWrite, named, carried]
        exact if_neg mode
      obtain ⟨absent, idle, busy⟩ := h.writeAux_table i (carriedPart f) clamped
      intro iRun part kept
      have code : (if clamped then ReplyCode.clamped else .ok) = if kept then .ok else .clamped := by
        cases clamped with
        | false => exact (if_pos (iff_kept.1 rfl)).symm
        | true => exact (if_neg fun fits => nomatch iff_kept.2 fits).symm
      refine ⟨fun empty => ?_, fun r held => ⟨fun isIdle => ?_, fun isBusy => ?_⟩⟩
      · exact (answered role (written.trans (absent empty))).trans (by rw [code]; rfl)
      · exact (answered role (written.trans (idle r held isIdle))).trans (by rw [code]; rfl)
      · exact answered role (written.trans (busy r held isBusy))
  · intro h reply
    obtain ⟨cab, other⟩ := State.actRequest_of_cab hears 0x22 tag (answerAuxRemove slot) (by decide)
    have answered (role : s.role p = .cab) {x : Answer} (hx : answerAuxRemove slot h = x) :
        exec (.auxRemove p tag slot) s = .next (x.state.answered p 0x22 tag x.code x.content) :=
      (cab role).trans (by rw [hx])
    have absent (role : s.role p = .cab) (unnamed : s.aux.named slot = none) : reply h .noSuch := by
      have : h.aux.named slot = none := unnamed
      exact answered role (x := h.refuse .noSuch) (by simp only [answerAuxRemove, this])
    refine ⟨other, fun role => ⟨fun above => absent role (s.aux.named_above slot above), fun i same => ?_⟩⟩
    refine ⟨fun empty => absent role (by rw [s.aux.named_eq slot i same, empty]; rfl), fun r held => ?_⟩
    have named : h.aux.named slot = some (i, r) := (s.aux.named_eq slot i same).trans (by rw [held]; rfl)
    have removed : answerAuxRemove slot h = if h.router.mode = .halt then h.refuse .modeRefused
        else if r.state = .idle then (h.setAux { h.aux with table := h.aux.table.set i none }).ok
        else h.refuse .busy := by
      simp only [answerAuxRemove, named]
    refine ⟨fun halt => ?_, fun mode busy => ?_, fun mode idle => ?_⟩
    · exact answered role (removed.trans (if_pos halt))
    · exact answered role (removed.trans ((if_neg mode).trans (if_neg busy)))
    · have quiet := h.setAux_same_orders _ (Sequencer.remove_orders i h.aux held idle)
      exact answered role (removed.trans ((if_neg mode).trans ((if_pos idle).trans (congrArg State.ok quiet))))

end Sys2Proof.Machine

namespace Sys2Proof.Machine

/-! ## The expiries of the sequencer's timers (R129 to R132, R135; log 3) -/

section
variable {s : State} {i : Slot} {r : AuxRecord} (held : s.aux.table[i] = some r)
include held

/-- An event of a present record acts where it is due. -/
theorem State.auxEvent_of_held (due : AuxRecord → Bool) (f : AuxRecord → Sequencer) :
    s.auxEvent i due f = if due r then s.setAux (f r) else s := by
  rw [State.auxEvent]
  split
  · next q other =>
    cases held.symm.trans other
    rfl
  · next absent => exact absurd (held.symm.trans absent) nofun

variable (up : s.up = true) (due : AuxRecord → Bool) (f : State → AuxRecord → Sequencer)
include up

/-- An expiry that is due acts. -/
theorem State.act_auxEvent_due (isDue : due r = true) :
    s.act (fun s => s.auxEvent i due (f s)) = .next (s.setAux (f s r)).beginWaiting := by
  rw [State.act_of_up _ _ up, State.auxEvent_of_held held, if_pos isDue]

/-- An expiry that is due and leaves the orders as they were gives the sequencer that it makes (R136). -/
theorem State.act_auxEvent (isDue : due r = true) (orders : (f s r).orders = s.aux.orders) :
    s.act (fun s => s.auxEvent i due (f s)) = .next ({ s with aux := f s r } : State).beginWaiting := by
  rw [State.act_auxEvent_due held up due f isDue, s.setAux_same_orders _ orders]

/-- An expiry of a timer that does not run does nothing (log 3). -/
theorem State.act_auxEvent_stopped (stopped : due r = false) :
    s.act (fun s => s.auxEvent i due (f s)) = .next s.beginWaiting := by
  rw [State.act_of_up _ _ up, State.auxEvent_of_held held, stopped]
  rfl

end

section
variable (a : Sequencer) {i : Slot} {r : AuxRecord}

/-- A record that leaves STARTING for RUNNING stays on (R136). -/
theorem Sequencer.inrushExpired_orders (held : a.table[i] = some r) (starts : r.state = .starting) :
    (a.inrushExpired i r).orders = a.orders := by
  let freed : Sequencer := { a with starting := if a.starting = some i then none else a.starting }
  have on : (freed.table[i]).elim false AuxRecord.isOn = true := by
    rw [show freed.table[i] = some r from held]
    simp [AuxRecord.isOn, starts]
  exact freed.put_orders i (r.ran (a.runningCount + 1)) on

/-- A record held off goes to the queue or to IDLE (R132). -/
theorem Sequencer.offExit_of_off (off : r.state = .cooldown ∨ r.state = .shed) : a.offExit i r =
    if r.want && (r.state == .cooldown || r.config.autoRestart) then (a.put i r.toQueued).join i
    else a.put i (r.toIdle false) := by
  obtain state | state := off <;> simp [Sequencer.offExit, state, and_comm]

/-- A record that leaves an off state is as much off as before (R136). -/
theorem Sequencer.offExit_orders (held : a.table[i] = some r) (off : r.state = .cooldown ∨ r.state = .shed) :
    (a.offExit i r).orders = a.orders := by
  have was : (a.table[i]).elim false AuxRecord.isOn = false := by
    rw [held]
    obtain state | state := off <;> simp [AuxRecord.isOn, state]
  rw [a.offExit_of_off off]
  split
  · rw [Sequencer.join_orders, a.put_orders i r.toQueued was]
  · exact a.put_orders i (r.toIdle false) was

end

/-- The stall timer's expiry with a head not yet reported: the head is marked and START_STALLED is raised with its slot,
an event that routes no action (R135, R149). -/
theorem State.stallExpired_effect {s : State} {i : Slot} {rest : List Slot} {r : AuxRecord}
    (running : s.aux.stall.isRunning = true) (queue : s.aux.queue = i :: rest) (held : s.aux.table[i] = some r) :
    (r.stalled = true → s.stallExpired = { s with aux := { s.aux with stall := .expired } }) ∧
    (r.stalled = false → s.stallExpired =
      ({ s with aux := ({ s.aux with stall := .expired } : Sequencer).put i { r with stalled := true } } :
        State).handleEvent ⟨.startStalled, .advisory, .slot i⟩) := by
  have reports : s.stallExpired = if r.stalled then { s with aux := { s.aux with stall := .expired } }
      else ({ s with aux := ({ s.aux with stall := .expired } : Sequencer).put i { r with stalled := true } } :
        State).handleEvent ⟨.startStalled, .advisory, .slot i⟩ := by
    rw [State.stallExpired, if_neg (by simp [running])]
    split
    · next empty => exact absurd (queue.symm.trans empty) nofun
    · next head other =>
      cases queue.symm.trans other
      split
      · next q present =>
        cases held.symm.trans present
        rfl
      · next absent => exact absurd (held.symm.trans absent) nofun
  exact ⟨fun stalled => by rw [reports, if_pos stalled], fun fresh => by rw [reports, fresh]; rfl⟩

/-- Settles O52: each expiry by what is due, and the stall timer's by whether the head has been reported. -/
theorem auxiliaryTimersExpire : Obligations.AuxiliaryTimersExpire := by
  refine ⟨fun i r s up held => ?_, fun i rest r s up running queue held => ?_⟩
  · intro a gives
    refine ⟨fun starts runs => ?_, fun runs => ?_, fun state runs => ?_, fun runs => ?_, fun rests => ?_, fun rests => ?_, fun rests => ?_, fun rests => ?_⟩
    · exact State.act_auxEvent held up (fun r => r.state == .starting && r.inrush.isRunning)
        (fun s r => s.aux.inrushExpired i r) (by simp [starts, runs]) (a.inrushExpired_orders held starts)
    · exact State.act_auxEvent held up (fun r => r.onTimer.isRunning)
        (fun s r => s.aux.put i { r with onTimer := .expired }) runs (a.put_orders i _ (by rw [held]; rfl))
    · intro stopped
      refine (State.act_auxEvent_due held up (fun r => r.state == .running && r.runTimer.isRunning)
        (fun s r => s.aux.stopTo i r .cooldown false) (by simp [state, runs])).trans ?_
      rw [s.setAux_stopTo i r .cooldown false held (by simp [AuxRecord.isOn, state]) (.inl rfl)]
    · intro idle queued again off
      refine (State.act_auxEvent held up (fun r => r.offInhibit.isRunning) (fun s r => s.aux.offExit i r) runs
        (a.offExit_orders held off)).trans ?_
      rw [Sequencer.offExit_of_off _ off]
      rfl
    · exact State.act_auxEvent_stopped held up (fun r => r.state == .starting && r.inrush.isRunning)
        (fun s r => s.aux.inrushExpired i r) (by simp [rests])
    · exact State.act_auxEvent_stopped held up (fun r => r.onTimer.isRunning)
        (fun s r => s.aux.put i { r with onTimer := .expired }) rests
    · exact State.act_auxEvent_stopped held up (fun r => r.state == .running && r.runTimer.isRunning)
        (fun s r => s.aux.stopTo i r .cooldown false) (by simp [rests])
    · exact State.act_auxEvent_stopped held up (fun r => r.offInhibit.isRunning) (fun s r => s.aux.offExit i r) rests
  · have taken : exec .stallTimerExpiry s = .next s.stallExpired.beginWaiting := State.act_of_up _ _ up
    obtain ⟨reported, fresh⟩ := State.stallExpired_effect running queue held
    refine ⟨fun stalled => taken.trans (by rw [reported stalled]), fun unreported => ?_⟩
    let e : Event := ⟨.startStalled, .advisory, .slot i⟩
    let marked : State :=
      { s with aux := ({ s.aux with stall := .expired } : Sequencer).put i { r with stalled := true } }
    obtain ⟨spares, -, passing⟩ := marked.handleEvent_effect e (by simp [e, EventKind.action])
    obtain ⟨allot, aux, mode⟩ := passing fun stops => nomatch stops.2
    have entry := marked.handleEvent_entry e
    have unset : marked.inhibitSource e = none := by
      unfold State.inhibitSource
      exact ite_self _
    refine ⟨(marked.handleEvent e).beginWaiting, taken.trans (by rw [fresh unreported]), ?_⟩
    simp only [State.beginWaiting_aux, State.beginWaiting_router, State.beginWaiting_allot, State.beginWaiting_contact,
      allot, aux, mode, spares.contact, unset]
    refine ⟨rfl, Sequencer.put_self _ _ _, rfl, rfl, congrArg FaultEntry.lastDetail entry,
      congrArg FaultEntry.count entry, rfl, ?_, rfl⟩
    simp [AllotmentUnit.inhibitBy, marked]

end Sys2Proof.Machine

namespace Sys2Proof.Machine

/-! ## The head test (R134, R135) -/

section
variable {a : Sequencer} {i : Slot} {rest : List Slot} {r : AuxRecord}

/-- The head of the queue starts where it fits, and nothing changes where it does not (R134). -/
theorem Sequencer.testHead_of_head (pub : Record) (cs : ContactState) (free : a.starting = none)
    (queue : a.queue = i :: rest) (held : a.table[i] = some r) :
    a.testHead pub cs = if r.fits pub cs then a.startHead i r else a := by
  unfold Sequencer.testHead
  split
  · next head _ _ other =>
    cases queue.symm.trans other
    split
    · next q present =>
      cases held.symm.trans present
      rfl
    · next absent => exact absurd (held.symm.trans absent) nofun
  · next away => exact (away i rest free queue).elim

/-- With an empty queue or the starting slot taken nothing is tested (R134). -/
theorem Sequencer.testHead_idle (pub : Record) (cs : ContactState) (idle : a.queue = [] ∨ a.starting ≠ none) :
    a.testHead pub cs = a := by
  unfold Sequencer.testHead
  split
  · next free queue =>
    obtain empty | taken := idle
    · exact absurd (queue.symm.trans empty) nofun
    · exact absurd free taken
  · rfl

theorem AuxRecord.fits_iff (pub : Record) (cs : ContactState) : r.fits pub cs = true ↔
    if r.config.tier = .essential then r.config.iIn ≤ pub.hLine + pub.hBat
    else r.config.iIn ≤ pub.hLine ∧ pub.mode = .run ∧ cs = .contact := by
  unfold AuxRecord.fits
  cases tier : r.config.tier with
  | essential => simp
  | comfort => simp [and_comm]

/-- What the start of the head makes of queue, slot, table and stall timer (R134, R135). -/
theorem Sequencer.startHead_effect (queue : a.queue = i :: rest) (once : i ∉ rest) :
    (a.startHead i r).queue = rest ∧ (a.startHead i r).starting = some i ∧
      (a.startHead i r).table[i] = some r.started ∧ (∀ j : Slot, j ≠ i → (a.startHead i r).table[j] = a.table[j]) ∧
      (a.startHead i r).stall = if rest = [] then .stopped else .running a.settings.startWaitMax := by
  have left := a.leave_eq i [] rest queue List.not_mem_nil once
  refine ⟨congrArg Sequencer.queue left, rfl, (a.leave i).put_self i _, fun j other => ?_, ?_⟩
  · exact (a.leave i).put_other i _ other
  · refine (congrArg Sequencer.stall left).trans ?_
    simp

end

/-! ## Frame shedding (R141) -/

/-- The running current of a slot's record. -/
def Sequencer.iRunOf (a : Sequencer) (i : Slot) : Nat := ((a.table[i]).map fun r => r.config.iRun).getD 0

/-- Frame shedding sheds the shortest front part of its list whose running currents cover the shortfall, and the whole
list where they do not (R141). -/
theorem Sequencer.shedUntil_front (shortfall : Nat) {l : List Slot} (distinct : l.Nodup) (f : Slot → Nat) {a : Sequencer}
    (currents : ∀ i ∈ l, ∃ r, a.table[i] = some r ∧ r.config.iRun = f i) (sum : Nat) :
    ∃ x y, l = x ++ y ∧ a.shedUntil shortfall sum l = a.shedAll x ∧ (y = [] ∨ shortfall ≤ sum + (x.map f).sum) ∧
      (x = [] ∨ ∃ x' i, x = x' ++ [i] ∧ sum + (x'.map f).sum < shortfall) := by
  induction l generalizing sum a with
  | nil => exact ⟨[], [], rfl, rfl, .inl rfl, .inl rfl⟩
  | cons i l ih =>
    obtain ⟨fresh, distinct⟩ := List.nodup_cons.1 distinct
    rw [Sequencer.shedUntil]
    split
    · next covered => exact ⟨[], i :: l, rfl, rfl, .inr (by simpa using covered), .inl rfl⟩
    · next short =>
      obtain ⟨r, held, current⟩ := currents i (by simp)
      have later : ∀ j ∈ l, ∃ q, (a.stopTo i r .shed r.want).table[j] = some q ∧ q.config.iRun = f j := fun j hj => by
        obtain ⟨q, hq, same⟩ := currents j (by simp [hj])
        have other : j ≠ i := fun same => fresh (same ▸ hj)
        obtain ⟨q', hq', restamped, -⟩ := (a.stopTo_restamps i r .shed r.want other).2 q hq
        exact ⟨q', hq', by rw [restamped]; exact same⟩
      obtain ⟨x, y, split, shed, enough, least⟩ := ih distinct later (sum + f i)
      refine ⟨i :: x, y, by rw [split]; rfl, ?_, ?_, .inr ?_⟩
      · rw [Sequencer.shedAll_cons x held, ← shed, ← current]
        split
        · next q present =>
          cases held.symm.trans present
          rfl
        · next absent => exact absurd (held.symm.trans absent) nofun
      · simpa [Nat.add_assoc] using enough
      · obtain rfl | ⟨x', j, rfl, below⟩ := least
        · exact ⟨[], i, rfl, by simpa using short⟩
        · exact ⟨i :: x', j, rfl, by simpa [Nat.add_assoc] using below⟩

theorem Sequencer.Restamps.stateAt {a b : Sequencer} {i : Slot} (h : a.Restamps b i) : b.stateAt i = a.stateAt i := by
  cases held : a.table[i] with
  | none => rw [Sequencer.stateAt, Sequencer.stateAt, h.1 held, held]
  | some r =>
    obtain ⟨q, hq, same, -⟩ := h.2 r held
    rw [Sequencer.stateAt_of_held hq, Sequencer.stateAt_of_held held, same]

/-- Of the records that run, those that do not once some slots are shed are these slots' (R142). -/
theorem Sequencer.shedAll_stops {a : Sequencer} {x : List Slot} (distinct : x.Nodup)
    (running : ∀ i ∈ x, a.stateAt i = .running) (i : Slot) :
    a.stateAt i = .running ∧ (a.shedAll x).stateAt i ≠ .running ↔ i ∈ x := by
  constructor
  · rintro ⟨was, is⟩
    by_contra other
    exact is ((Sequencer.shedAll_restamps x a other).stateAt.trans was)
  · intro listed
    refine ⟨running i listed, ?_⟩
    cases held : a.table[i] with
    | none => exact absurd (running i listed) (by rw [Sequencer.stateAt, held]; exact nofun)
    | some r =>
      rw [Sequencer.stateAt_of_held (Sequencer.shedAll_stopped distinct a listed held)]
      intro runs
      have off := r.stopped_isOn .shed r.want (.inr rfl)
      simp [AuxRecord.isOn, runs] at off

/-- The slots whose records have left RUNNING, as the statement lists them. -/
theorem Sequencer.leavers_perm {a b : Sequencer} {x : List Slot} (distinct : x.Nodup)
    (stops : ∀ i, a.stateAt i = .running ∧ b.stateAt i ≠ .running ↔ i ∈ x) :
    (slots.filter fun i => decide (b.isIn i .running = false) && a.isIn i .running).Perm x := by
  refine (List.perm_ext_iff_of_nodup ((List.nodup_finRange 12).filter _) distinct).2 fun i => ?_
  rw [← stops i, List.mem_filter]
  simp only [List.mem_finRange, true_and, Bool.and_eq_true, decide_eq_true_eq, Bool.eq_false_iff, ne_eq,
    Sequencer.isIn_iff _ _ (show AuxState.running ≠ .idle by decide)]
  exact and_comm

/-- The records eligible for shedding stand in descending order of stamp (R141). -/
theorem Sequencer.byStamp_descends (a : Sequencer) (keep : AuxRecord → Bool) :
    (a.byStamp keep).Pairwise fun i j => a.stampOf j ≤ a.stampOf i := by
  have : Std.Total fun i j => a.stampOf j ≤ a.stampOf i := ⟨fun i j => Nat.le_total _ _⟩
  have : IsTrans Slot fun i j => a.stampOf j ≤ a.stampOf i := ⟨fun i j k first second => second.trans first⟩
  exact List.pairwise_insertionSort _ _

/-- Frame shedding by what it leaves out of RUNNING: a front part of the eligible records in descending order of stamp,
the shortest that covers the shortfall or all of them (R141). -/
theorem Sequencer.frameShed_front (a : Sequencer) (shortfall : Nat) :
    ∃ x y, a.byStamp AuxRecord.eligible = x ++ y ∧
      (∀ i, a.stateAt i = .running ∧ (a.frameShed shortfall).stateAt i ≠ .running ↔ i ∈ x) ∧
      (y = [] ∨ shortfall ≤ (x.map a.iRunOf).sum) ∧
      (x = [] ∨ ∃ x' i, x = x' ++ [i] ∧ (x'.map a.iRunOf).sum < shortfall) := by
  have distinct := a.byStamp_nodup AuxRecord.eligible
  have member (i : Slot) := a.mem_byStamp AuxRecord.eligible i
  obtain ⟨x, y, split, shed, enough, least⟩ := Sequencer.shedUntil_front shortfall distinct a.iRunOf
    (fun i listed => by
      obtain ⟨r, held, -⟩ := (member i).1 listed
      exact ⟨r, held, by rw [Sequencer.iRunOf, held]; rfl⟩) 0
  simp only [Nat.zero_add] at enough least
  refine ⟨x, y, split, fun i => ?_, enough, least⟩
  rw [Sequencer.frameShed, shed]
  refine Sequencer.shedAll_stops (split ▸ distinct).of_append_left (fun j listed => ?_) i
  obtain ⟨r, held, eligible⟩ := (member j).1 (split ▸ List.mem_append_left y listed)
  simp only [AuxRecord.eligible, Bool.and_eq_true, beq_iff_eq, and_assoc] at eligible
  rw [Sequencer.stateAt_of_held held]
  exact eligible.2.1

/-- Settles O53: the head test by its head, the shortfall count, and frame shedding as a front part of the eligible
records. -/
theorem publicationStartsAndSheds : Obligations.PublicationStartsAndSheds := by
  refine ⟨fun a pub cs => ?_, fun a shortfall => ?_⟩
  · intro b
    refine ⟨Sequencer.testHead_idle pub cs, fun i rest r free queue held => ?_⟩
    have tested := Sequencer.testHead_of_head pub cs free queue held
    intro fits
    have decides : r.fits pub cs = true ↔ fits := r.fits_iff pub cs
    refine ⟨fun tooMuch => tested.trans (if_neg (mt decides.1 tooMuch)), fun enough once => ?_⟩
    have started : b = a.startHead i r := tested.trans (if_pos (decides.2 enough))
    rw [started]
    exact Sequencer.startHead_effect queue once
  · intro b eligible shed current
    refine ⟨fun none => if_pos none, fun short few => ?_, fun short many => ?_⟩
    · exact (if_neg short.ne').trans (if_neg (Nat.not_le.2 few))
    have counted : b = { a.frameShed shortfall with shortfallCount := 0 } := (if_neg short.ne').trans (if_pos many)
    obtain ⟨x, y, split, stops, enough, least⟩ := a.frameShed_front shortfall
    have distinct : x.Nodup := (split ▸ a.byStamp_nodup AuxRecord.eligible).of_append_left
    have descends := split ▸ a.byStamp_descends AuxRecord.eligible
    obtain ⟨front, -, across⟩ := List.pairwise_append.1 descends
    have mem_eligible (i : Slot) : i ∈ slots.filter eligible ↔ i ∈ x ++ y := by
      rw [← split, Sequencer.mem_byStamp, List.mem_filter]
      simp only [slots, List.mem_finRange, true_and, eligible, Option.any_eq_true]
      rfl
    have perm : shed.Perm x := Sequencer.leavers_perm distinct (counted ▸ stops)
    have mem_shed (i : Slot) : i ∈ shed ↔ i ∈ x := perm.mem_iff
    have total {l l' : List Slot} (same : l.Perm l') : current l = (l'.map a.iRunOf).sum := (same.map _).sum_eq
    refine ⟨by rw [counted], fun i listed => ?_, fun found => ?_, ?_, fun i listed j waits spared => ?_, fun found => ?_⟩
    · have listed := (mem_eligible i).2 (List.mem_append_left y ((mem_shed i).1 listed))
      exact (List.mem_filter.1 listed).2
    · intro kept
      have nothing : x = [] := (kept ▸ perm).nil_eq.symm
      subst nothing
      have waiting : y = [] := enough.resolve_right (by simpa using short.ne')
      exact found (List.eq_nil_iff_forall_not_mem.2 fun i listed => by simpa [waiting] using (mem_eligible i).1 listed)
    · obtain rfl | enough := enough
      · exact .inl fun i listed => (mem_shed i).2 (by simpa using (mem_eligible i).1 listed)
      · exact .inr (by rw [total perm]; exact enough)
    · have later := (List.mem_append.1 ((mem_eligible j).1 waits)).resolve_left (mt (mem_shed j).2 spared)
      exact across i ((mem_shed i).1 listed) j later
    · obtain rfl | ⟨x', i, rfl, below⟩ := least
      · exact absurd perm.eq_nil found
      · obtain ⟨-, -, above⟩ := List.pairwise_append.1 front
        refine ⟨i, (mem_shed i).2 (by simp), fun j listed => ?_, ?_⟩
        · obtain before | last := List.mem_append.1 ((mem_shed j).1 listed)
          · exact above j before i (by simp)
          · rw [List.mem_singleton.1 last]
        · have rest : (shed.erase i).Perm x' := by
            have := (perm.trans (List.perm_append_singleton i x')).erase i
            simpa using this
          rw [total rest]
          exact below

end Sys2Proof.Machine

namespace Sys2Proof.Machine

/-! ## ROUTE_WRITE and CLEAR_FAULT (R150, R151, R154) -/

section
variable {kind mask enable : Byte} (s : State)

/-- The kinds that have a routable action, by their places in the tables (R149). -/
theorem EventKind.action_isSome (k : EventKind) : k.action.isSome = decide (k.index.val ∈ [0, 1, 2, 8, 10]) := by
  cases k <;> rfl

theorem maskOf_low (low : mask.toNat ≤ 15) : maskOf mask = some (mask.setWidth 4) := if_pos (by omega)

theorem maskOf_high (high : 15 < mask.toNat) : maskOf mask = none := if_neg (by omega)

theorem answerRouteWrite_unnamed (unnamed : EventKind.ofNumber kind.toNat = none) :
    answerRouteWrite kind mask enable s = s.refuse .noSuch := by
  simp only [answerRouteWrite, unnamed]

theorem answerClearFault_unnamed (unnamed : EventKind.ofNumber kind.toNat = none) :
    answerClearFault kind s = s.refuse .noSuch := by
  simp only [answerClearFault, unnamed]

variable {k : EventKind} (named : EventKind.ofNumber kind.toNat = some k)
include named

theorem answerRouteWrite_halt (halt : s.router.mode = .halt) :
    answerRouteWrite kind mask enable s = s.refuse .modeRefused := by
  simp only [answerRouteWrite, named, halt, if_true]

/-- Outside HALT a mask or an enable that names no value is refused (R151, R181). -/
theorem answerRouteWrite_format (mode : s.router.mode ≠ .halt) (bad : 15 < mask.toNat ∨ 1 < enable.toNat) :
    answerRouteWrite kind mask enable s = s.refuse .format := by
  simp only [answerRouteWrite, named, mode, if_false]
  obtain high | high := bad
  · rw [maskOf_high high]
  · rw [switchOf_none enable high]
    cases maskOf mask <;> rfl

/-- Outside HALT the kind's entry takes the mask and the enable; where the kind has no action, an action written on is
stored off (R150, R151). -/
theorem answerRouteWrite_stored (mode : s.router.mode ≠ .halt) (low : mask.toNat ≤ 15) (switch : enable.toNat ≤ 1) :
    let routable := k.index.val ∈ [0, 1, 2, 8, 10]
    answerRouteWrite kind mask enable s =
      { state := { s with router := { s.router with routing :=
          (s.router.routing.set k.index ⟨mask.setWidth 4, decide (enable = 1 ∧ routable)⟩) } }
        code := if enable = 1 ∧ ¬routable then .clamped else .ok } := by
  intro routable
  have stored : (enable == 1 && k.action.isSome) = decide (enable = 1 ∧ routable) := by
    rw [k.action_isSome, Bool.decide_and]
    rfl
  have clamps : ¬decide (enable = 1 ∧ routable) = (enable == 1) ↔ enable = 1 ∧ ¬routable := by
    rw [Bool.beq_eq_decide_eq, decide_eq_decide]
    tauto
  simp only [answerRouteWrite, named, mode, if_false, maskOf_low low, switchOf_low switch, stored]
  congr 1
  rw [← ite_not]
  exact if_congr clamps rfl rfl

/-- CLEAR_FAULT's effect on the entry of a kind: the latch alone goes (R154). -/
def State.unlatched (s : State) (k : EventKind) : State :=
  { s with router := { s.router with
      faults := s.router.faults.set k.index { s.router.faults[k.index] with latch := .none } } }

theorem answerClearFault_already (latch : (s.router.faults[k.index]).latch = .none) :
    answerClearFault kind s = s.refuse .already := by
  simp only [answerClearFault, named, latch]

theorem answerClearFault_advisory (latch : (s.router.faults[k.index]).latch = .advisory) :
    answerClearFault kind s = (s.unlatched k).ok := by
  simp only [answerClearFault, named, latch, State.unlatched]

/-- A STOPPING latch clears in SETUP alone (R154). -/
theorem answerClearFault_stopping (latch : (s.router.faults[k.index]).latch = .stopping) :
    answerClearFault kind s = if s.router.mode = .setup then (s.unlatched k).ok else s.refuse .modeRefused := by
  simp only [answerClearFault, named, latch, State.unlatched]

end

/-- Settles O56: the checks in their order, and the entry stored. -/
theorem routeWriteStoresTheEntry : Obligations.RouteWriteStoresTheEntry := by
  intro p tag kind mask enable s hears h reply
  obtain ⟨cab, other⟩ := State.actRequest_of_cab hears 0x27 tag (answerRouteWrite kind mask enable) (by decide)
  refine ⟨other, fun role => ?_⟩
  have answered {u : State} {code : ReplyCode}
      (hx : answerRouteWrite kind mask enable h = { state := u, code := code }) : reply u code :=
    (cab role).trans (by rw [hx])
  refine ⟨fun outside => answered (answerRouteWrite_unnamed h (EventKind.ofNumber_none kind outside)),
    fun k number => ?_⟩
  have named := k.ofNumber_index kind number
  exact ⟨fun halt => answered (answerRouteWrite_halt h named halt),
    fun mode bad => answered (answerRouteWrite_format h named mode bad),
    fun mode low switch => answered (answerRouteWrite_stored h named mode low switch)⟩

/-- Settles O57: an entry by its latch, and a STOPPING one by the mode. -/
theorem clearFaultActsByLatch : Obligations.ClearFaultActsByLatch := by
  intro p tag kind s hears h reply
  obtain ⟨cab, other⟩ := State.actRequest_of_cab hears 0x2B tag (answerClearFault kind) (by decide)
  refine ⟨other, fun role => ?_⟩
  have answered {u : State} {code : ReplyCode} (hx : answerClearFault kind h = { state := u, code := code }) :
      reply u code := (cab role).trans (by rw [hx])
  refine ⟨fun outside => answered (answerClearFault_unnamed h (EventKind.ofNumber_none kind outside)),
    fun k number => ?_⟩
  intro f cleared
  have named := k.ofNumber_index kind number
  exact ⟨fun latch => answered (answerClearFault_already h named latch),
    fun latch => answered (answerClearFault_advisory h named latch),
    fun latch setup => answered ((answerClearFault_stopping h named latch).trans (if_pos setup)),
    fun latch mode => answered ((answerClearFault_stopping h named latch).trans (if_neg mode))⟩

end Sys2Proof.Machine

namespace Sys2Proof.Machine

/-! ## One event: fault table, mode, routed action and notices (R149, R152, R153, R157) -/

/-- An EVENT notice queued waits with its event and at least its own kinds in the mask (R175). -/
theorem mem_enqueue_event (k : BitVec 16) (e : Event) (acted : Bool) (q : List Notice) :
    ∃ m, Notice.event m e acted ∈ enqueue (.event k e acted) q ∧ ∀ i, k.getLsbD i = true → m.getLsbD i = true := by
  induction q with
  | nil => exact ⟨k, List.mem_singleton_self _, fun _ set => set⟩
  | cons n rest ih =>
    by_cases waits : n.kind = (Notice.event k e acted).kind
    · cases n with
      | event old e' acted' =>
        exact ⟨old ||| k, List.mem_cons_self, fun i set => by simp [set]⟩
      | _ => cases waits
    · obtain ⟨m, waiting, kept⟩ := ih
      exact ⟨m, by rw [enqueue, if_neg waits]; exact List.mem_cons_of_mem _ waiting, kept⟩

section
variable (s : State) (e : Event)

/-- An event's routed action is taken: its kind has one and the kind's entry enables it (R149, R152). -/
def State.actsOn : Bool := (s.router.routing[e.kind.index]).action && e.kind.action.isSome

/-- Handling an event is its first step, the routed action where it is taken, and the EVENT notices (R152). -/
theorem State.handleEvent_stages : ∃ u,
    s.handleEvent e = u.queueTo (fun p => (s.router.routing[e.kind.index]).mask.getLsbD p) (e.notice (s.actsOn e)) ∧
      (s.actsOn e = false → u = s.latchEvent e) ∧
      (s.actsOn e = true → ∀ a, e.kind.action = some a → u = (s.latchEvent e).perform a) := by
  cases on : (s.router.routing[e.kind.index]).action with
  | false =>
    have idle : s.actsOn e = false := by rw [State.actsOn, on, Bool.false_and]
    exact ⟨_, by rw [s.handleEvent_unrouted e on, idle], fun _ => rfl, fun acts => by cases idle.symm.trans acts⟩
  | true =>
    cases action : e.kind.action with
    | none =>
      have idle : s.actsOn e = false := by rw [State.actsOn, action, Option.isSome_none, Bool.and_false]
      exact ⟨_, by rw [s.handleEvent_plain e action, idle], fun _ => rfl, fun acts => by cases idle.symm.trans acts⟩
    | some a =>
      have acts : s.actsOn e = true := by rw [State.actsOn, on, action]; rfl
      refine ⟨_, by rw [s.handleEvent_acting e a action on, acts], fun idle => ?_, fun _ b same => ?_⟩
      · cases idle.symm.trans acts
      · rw [Option.some.inj same]

/-- The action leaves the router as the first step has made it (R152). -/
theorem State.handleEvent_router : (s.handleEvent e).router = (s.latchEvent e).router := by
  simp only [State.handleEvent]
  split <;> simp

/-- The entry of a place that is not the event's stays (R153). -/
theorem State.handleEvent_faults_other {j : Fin 16} (other : j ≠ e.kind.index) :
    (s.handleEvent e).router.faults[j] = s.router.faults[j] := by
  have apart : e.kind.index.val ≠ j.val := fun same => other (Fin.ext same.symm)
  simp only [s.handleEvent_faults e, Fin.getElem_fin]
  exact Vector.getElem_set_ne _ _ apart

/-- The mode after an event: HALT after a STOPPING one in RUN (R157). -/
theorem State.handleEvent_mode_eq : (s.handleEvent e).router.mode =
    if e.cls = .stopping ∧ s.router.mode = .run then .halt else s.router.mode := by
  obtain ⟨-, stopping, passing⟩ := s.latchEvent_effect e
  rw [s.handleEvent_router e]
  split
  · next stops =>
    obtain ⟨-, -, mode⟩ := stopping stops.symm
    exact mode
  · next passes =>
    obtain ⟨-, -, mode⟩ := passing (mt And.symm passes)
    exact mode

/-- The first step leaves the traction inhibit (R89, R153). -/
theorem State.latchEvent_inhibit : (s.latchEvent e).allot.inhibit = s.allot.inhibit := by
  obtain ⟨-, stopping, passing⟩ := s.latchEvent_effect e
  by_cases stops : s.StopsOn e
  · rw [(stopping stops).1]
    rfl
  · rw [(passing stops).1]

/-- Every port of the kind's mask has a notice of the event waiting (R152). -/
theorem State.handleEvent_notified {p : PortId}
    (masked : (s.router.routing[e.kind.index]).mask.getLsbD p.val = true) :
    ∃ m : BitVec 16, m.getLsbD e.kind.index.val = true ∧
      Notice.event m e (s.actsOn e) ∈ ((s.handleEvent e).ports[p]).queue := by
  obtain ⟨u, handled, -⟩ := s.handleEvent_stages e
  obtain ⟨m, waits, kept⟩ := mem_enqueue_event (BitVec.ofNat 16 (2 ^ e.kind.index.val)) e (s.actsOn e) (u.ports[p]).queue
  refine ⟨m, kept _ ?_, ?_⟩
  · cases e.kind <;> rfl
  · rw [handled, State.queueTo_queue, if_pos masked]
    exact waits

/-- A routed traction inhibit is set where none was (R117, R152). -/
theorem State.handleEvent_inhibits (acts : s.actsOn e = true) {x : InhibitSource}
    (action : e.kind.action = some (.tractionInhibit x)) :
    (s.handleEvent e).allot.inhibit = some (s.allot.inhibit.getD x) := by
  obtain ⟨u, handled, -, acting⟩ := s.handleEvent_stages e
  rw [handled, State.queueTo_allot, acting acts _ action, State.perform, State.setInhibit_eq]
  simp only [AllotmentUnit.inhibitBy, s.latchEvent_inhibit e]
  cases s.allot.inhibit <;> rfl

/-- A routed LOWER_POLES leaves no pole ON_WIRE or RAISING (R28, R152). -/
theorem State.handleEvent_lowers (acts : s.actsOn e = true) (action : e.kind.action = some .lowerPoles) (q : Pole) :
    ((s.handleEvent e).contact.poles.get q).state ≠ .onWire ∧
      ((s.handleEvent e).contact.poles.get q).state ≠ .raising := by
  obtain ⟨u, handled, -, acting⟩ := s.handleEvent_stages e
  rw [handled, State.queueTo_contact, acting acts _ action, State.perform, State.lowerPoles_contact]
  obtain ⟨-, -, pos, neg⟩ := (s.latchEvent e).contact.lowered_frame (s.latchEvent e).sections.gapOverride
  have down (r : PoleRecord) : r.lowerNow.state ≠ .onWire ∧ r.lowerNow.state ≠ .raising := by
    rw [r.lowerNow_state]
    split
    · decide
    · next up => exact not_or.1 up
  cases q with
  | pos => exact pos ▸ down _
  | neg => exact neg ▸ down _

/-- Without a routed action the poles and the traction inhibit stay (R152). -/
theorem State.handleEvent_idle (idle : s.actsOn e = false) :
    (s.handleEvent e).contact = s.contact ∧ (s.handleEvent e).allot.inhibit = s.allot.inhibit := by
  obtain ⟨u, handled, idling, -⟩ := s.handleEvent_stages e
  rw [handled, State.queueTo_contact, State.queueTo_allot, idling idle]
  exact ⟨s.latchEvent_contact e, s.latchEvent_inhibit e⟩

end

/-! ## RAISE_FAULT (R155) -/

/-- A class byte of 0 or 1 names its class (R181). -/
theorem classOf_low {b : Byte} (low : b.toNat ≤ 1) :
    ∃ c, classOf b = some c ∧ (b = 1 → c = .stopping) ∧ (b = 0 → c = .advisory) := by
  obtain rfl | rfl := byte_zero_or_one low
  · exact ⟨.advisory, rfl, by decide, fun _ => rfl⟩
  · exact ⟨.stopping, rfl, fun _ => rfl, by decide⟩

theorem classOf_high {b : Byte} (high : 1 < b.toNat) : classOf b = none := by
  unfold classOf
  split
  · omega
  · omega
  · rfl

section
variable (s : State) {number cls : Byte}

/-- A number outside 1..99 or a class that is none is refused (R155, R181). -/
theorem answerRaiseFault_format (bad : number = 0 ∨ 99 < number.toNat ∨ 1 < cls.toNat) :
    answerRaiseFault number cls s = s.refuse .format := by
  cases named : classOf cls with
  | none => simp only [answerRaiseFault, named]
  | some c =>
    have outside : inRange 1 99 number.toNat = false := by
      obtain rfl | high | unclassed := bad
      · rfl
      · simp only [inRange, decide_eq_false (Nat.not_le.2 high), Bool.and_false]
      · cases (classOf_high unclassed).symm.trans named
    simp only [answerRaiseFault, named, outside, Bool.false_eq_true, if_false]

theorem answerRaiseFault_taken {c : EventClass} (named : classOf cls = some c) (low : 1 ≤ number.toNat)
    (high : number.toNat ≤ 99) :
    answerRaiseFault number cls s = (s.handleEvent ⟨.userFault, c, .user number.toNat⟩).ok := by
  have within : inRange 1 99 number.toNat = true := by simp [inRange, low, high]
  simp only [answerRaiseFault, named, within, if_true]

/-- What a USER_FAULT leaves (R152, R153, R155, R157): no action is routed for it, and an ADVISORY one touches the fault
table and the queues alone. -/
theorem State.handleEvent_userFault (c : EventClass) (n : Nat) :
    let t := s.handleEvent ⟨.userFault, c, .user n⟩
    t.router.faults[15] = (s.router.faults[15]).record ⟨.userFault, c, .user n⟩ s.allot.frame ∧ s.Spares t ∧
      (c = .stopping → t.router.mode ≠ .run) ∧
      (c = .advisory → t.router.mode = s.router.mode ∧ t.allot = s.allot ∧ t.aux = s.aux) := by
  intro t
  let e : Event := ⟨.userFault, c, .user n⟩
  obtain ⟨spares, -, passing⟩ := s.handleEvent_effect e (by simp [e, EventKind.action])
  refine ⟨s.handleEvent_entry e, spares, ?_, ?_⟩
  · rintro rfl
    rw [show t.router.mode = _ from s.handleEvent_mode_eq e]
    split
    · decide
    · next passes => exact fun run => passes ⟨rfl, run⟩
  · rintro rfl
    obtain ⟨allot, aux, mode⟩ := passing fun stops => by cases stops.2
    have sourceless : s.inhibitSource e = none := by simp [State.inhibitSource, e, EventKind.action]
    exact ⟨mode, allot.trans (by simp [sourceless, AllotmentUnit.inhibitBy]), aux⟩

end

/-- Settles O55: the handling of an event stage by stage, and RAISE_FAULT by its checks. -/
theorem eventsAreLatchedAndNotified : Obligations.EventsAreLatchedAndNotified := by
  refine ⟨fun s e => ?_, fun p tag number cls s hears => ?_⟩
  · intro t i old acted
    have entry : t.router.faults[i] = old.record e s.allot.frame := s.handleEvent_entry e
    refine ⟨?_, fun j other => s.handleEvent_faults_other e other, ?_, s.handleEvent_mode_eq e,
      fun p masked => s.handleEvent_notified e masked, fun acts x action => s.handleEvent_inhibits e acts action,
      fun acts action q => s.handleEvent_lowers e acts action q, fun idle => s.handleEvent_idle e idle⟩
    · have latch : (old.record e s.allot.frame).latch =
          if e.cls = .stopping ∨ old.latch = .stopping then .stopping else .advisory :=
        (old.record_latch e s.allot.frame).trans (if_congr or_comm rfl rfl)
      rw [entry, ← latch]
      rfl
    · obtain ⟨spares, -⟩ := s.latchEvent_effect e
      exact (congrArg Router.routing (s.handleEvent_router e)).trans spares.routing
  · intro h reply
    obtain ⟨cab, other⟩ := State.actRequest_of_cab hears 0x2C tag (answerRaiseFault number cls) (by decide)
    refine ⟨other, fun role => ?_⟩
    have answered {u : State} {code : ReplyCode}
        (hx : answerRaiseFault number cls h = { state := u, code := code }) : reply u code :=
      (cab role).trans (by rw [hx])
    refine ⟨fun bad => answered (answerRaiseFault_format h bad), fun low high classed => ?_⟩
    obtain ⟨c, named, one, zero⟩ := classOf_low classed
    obtain ⟨entry, spares, stopping, advisory⟩ := h.handleEvent_userFault c number.toNat
    refine ⟨_, answered (answerRaiseFault_taken h named low high), congrArg FaultEntry.lastDetail entry,
      congrArg FaultEntry.count entry, fun stops => ⟨?_, stopping (one stops)⟩, fun advises => advisory (zero advises),
      spares.contact, spares.meas, spares.alarm, spares.sections, spares.store⟩
    rw [entry, FaultEntry.record_latch]
    exact if_pos (.inr (one stops))

end Sys2Proof.Machine

namespace Sys2Proof.Machine

/-! ## What an answer leaves of the commands that wait (log 27) -/

section
variable (s : State)

@[simp] theorem State.writeSections_pending (l : List SectionFields) : (s.writeSections l).1.pending = s.pending := by
  induction l generalizing s with
  | nil => rfl
  | cons f l ih => simp only [State.writeSections]; split <;> simp [ih]

@[simp] theorem answerPortStatus_pending (named clear : Byte) :
    (answerPortStatus named clear s).state.pending = s.pending := by
  simp only [answerPortStatus]
  split
  · rfl
  · split
    · rfl
    · split <;> simp

@[simp] theorem answerPoll_pending (p : PortId) : (answerPoll p s).state.pending = s.pending := by
  simp only [answerPoll]; split <;> simp

@[simp] theorem answerDemand_pending (mode : Byte) (magnitude : Half) :
    (answerDemand mode magnitude s).state.pending = s.pending := by
  simp only [answerDemand]; split <;> rfl

@[simp] theorem State.startAux_pending (i : Slot) (r : AuxRecord) : (s.startAux i r).state.pending = s.pending := by
  simp only [State.startAux]
  cases r.state with
  | idle => simp
  | cooldown => dsimp only; split <;> simp
  | shed => dsimp only; (repeat' split) <;> simp
  | _ => rfl

@[simp] theorem State.stopAux_pending (i : Slot) (r : AuxRecord) : (s.stopAux i r).state.pending = s.pending := by
  simp only [State.stopAux]
  cases r.state with
  | cooldown | shed => dsimp only; split <;> simp
  | _ => simp

@[simp] theorem State.writeAux_pending (i : Slot) (part : AuxConfig) (clamped : Bool) :
    (s.writeAux i part clamped).state.pending = s.pending := by
  simp only [State.writeAux]
  split
  · simp
  · split <;> simp

@[simp] theorem answerAuxStart_pending (slot : Byte) : (answerAuxStart slot s).state.pending = s.pending := by
  simp only [answerAuxStart]; split <;> simp

@[simp] theorem answerAuxStop_pending (slot : Byte) : (answerAuxStop slot s).state.pending = s.pending := by
  simp only [answerAuxStop]; split <;> simp

@[simp] theorem answerAuxWrite_pending (slot : Byte) (f : AuxFields) :
    (answerAuxWrite slot f s).state.pending = s.pending := by
  simp only [answerAuxWrite]; (repeat' split) <;> simp

@[simp] theorem answerAuxRemove_pending (slot : Byte) : (answerAuxRemove slot s).state.pending = s.pending := by
  simp only [answerAuxRemove]; (repeat' split) <;> simp

@[simp] theorem State.setEnable_pending (m : MonitorId) (on : Bool) : (s.setEnable m on).pending = s.pending := by
  simp only [State.setEnable]; split <;> simp

@[simp] theorem State.setFilter_pending (m : MonitorId) (f : MonitorSetting → MonitorSetting) :
    (s.setFilter m f).pending = s.pending := by
  simp only [State.setFilter]; split <;> simp

@[simp] theorem NumericItem.store_pending (v : Nat) (n : NumericItem) : (n.store s v).pending = s.pending := by
  cases n <;> simp [NumericItem.store]

theorem storeNamed_pending {α : Type} (named : Option α) (store : α → State) (h : ∀ a, (store a).pending = s.pending) :
    (storeNamed s named store).state.pending = s.pending :=
  storeNamed_keeps (P := fun t => t.pending = s.pending) rfl named store h

@[simp] theorem Item.write_pending (v : Nat) (i : Item) : (i.write s v).state.pending = s.pending := by
  cases i with
  | numeric n => exact n.store_pending s _
  | enable m => exact storeNamed_pending s _ _ (s.setEnable_pending m)
  | filterMode m => exact storeNamed_pending s _ _ fun _ => s.setFilter_pending m _
  | decimation m => exact s.setFilter_pending m _
  | sweepPeriod | framePeriod | readOnly => rfl
  | boost | charge | autoRun | rate | parity | polarity | duplex | role => exact storeNamed_pending s _ _ fun _ => rfl

@[simp] theorem answerSetItem_pending (item value : Half) : (answerSetItem item value s).state.pending = s.pending := by
  simp only [answerSetItem]; (repeat' split) <;> simp

@[simp] theorem answerSectionWrite_pending (l : List SectionFields) :
    (answerSectionWrite l s).state.pending = s.pending := by
  simp only [answerSectionWrite]; split <;> simp

@[simp] theorem answerSectionErase_pending : (answerSectionErase s).state.pending = s.pending := by
  simp only [answerSectionErase]; (repeat' split) <;> simp

@[simp] theorem answerSectionSet_pending (id : Half) : (answerSectionSet id s).state.pending = s.pending := by
  simp only [answerSectionSet]; (repeat' split) <;> simp

@[simp] theorem answerSectionAhead_pending (id : Half) : (answerSectionAhead id s).state.pending = s.pending := by
  simp only [answerSectionAhead]; (repeat' split) <;> simp

@[simp] theorem answerRouteWrite_pending (kind mask enable : Byte) :
    (answerRouteWrite kind mask enable s).state.pending = s.pending := by
  simp only [answerRouteWrite]; (repeat' split) <;> simp

@[simp] theorem answerAckAlarm_pending (p : PortId) (n : Half) : (answerAckAlarm p n s).state.pending = s.pending := by
  simp only [answerAckAlarm]; (repeat' split) <;> simp

@[simp] theorem answerClearHistory_pending : (answerClearHistory s).state.pending = s.pending := rfl

@[simp] theorem answerClearFlags_pending : (answerClearFlags s).state.pending = s.pending := rfl

@[simp] theorem answerSetHistoryPolicy_pending (policy : Byte) :
    (answerSetHistoryPolicy policy s).state.pending = s.pending := by
  simp only [answerSetHistoryPolicy]; (repeat' split) <;> simp

@[simp] theorem answerClearFault_pending (kind : Byte) : (answerClearFault kind s).state.pending = s.pending := by
  simp only [answerClearFault]; (repeat' split) <;> simp

@[simp] theorem answerRaiseFault_pending (number cls : Byte) :
    (answerRaiseFault number cls s).state.pending = s.pending := by
  simp only [answerRaiseFault]; (repeat' split) <;> simp

@[simp] theorem answerMode_pending (target : Byte) : (answerMode target s).state.pending = s.pending := by
  simp only [answerMode, answerModeSetup, answerModeRun]; (repeat' split) <;> simp

@[simp] theorem answerCheck_pending (level : Byte) : (answerCheck level s).state.pending = s.pending := by
  simp only [answerCheck]; split <;> rfl

@[simp] theorem answerSave_pending : (answerSave s).state.pending = s.pending := by
  simp only [answerSave]; (repeat' split) <;> rfl

@[simp] theorem answerReset_pending : (answerReset s).state.pending = s.pending := by
  simp only [answerReset]; split <;> simp

@[simp] theorem answerLower_pending : (answerLower s).state.pending = s.pending := s.lowerPoles_pending

@[simp] theorem answerRaise_pending : (answerRaise s).state.pending = s.pending := by
  simp only [answerRaise]; split <;> simp

@[simp] theorem answerBattery_pending (value : Byte) : (answerBattery value s).state.pending = s.pending := by
  simp only [answerBattery]; (repeat' split) <;> simp

@[simp] theorem answerTractionInhibit_pending (value : Byte) :
    (answerTractionInhibit value s).state.pending = s.pending := by
  simp only [answerTractionInhibit]; (repeat' split) <;> simp

end

/-! ## What a frame, an expiry and a reset leave of the commands that wait -/

section
variable (s : State)

theorem State.takeRequest_pending (p : PortId) (kind tag : Byte) (good : Bool) (take : State → Answer)
    (h : (take s).state.pending = s.pending) : (s.takeRequest p kind tag good take).pending = s.pending := by
  rcases s.takeRequest_cases p kind tag good take with ⟨_, e⟩ | ⟨_, _, e⟩ | ⟨_, _, _, e⟩ | ⟨_, _, _, e⟩ <;> rw [e]
  · rfl
  · rfl
  · rfl
  · exact h

theorem State.takeCommand_pending (i : Instr) : (s.takeCommand i).pending = s.pending := by
  cases i with
  | readAllotment | readContact | readAlarms | readHistory | readFaults | readAux | readSection | readMeasure | readItem
  | portStatus | poll | demand | auxStart | auxStop | setItem | auxWrite | auxRemove | sectionWrite | sectionErase
  | sectionSet | sectionAhead | routeWrite | ackAlarm | clearHistory | setHistoryPolicy | clearFault | raiseFault
  | clearFlags | mode | check | save | reset | lower | raise | battery | tractionInhibit =>
    exact s.takeRequest_pending _ _ _ _ _ (by simp)
  | _ => rfl

theorem State.answerFrame_pending (p : PortId) (kind tag : Byte) (code : ReplyCode) :
    (s.answerFrame p kind tag code).pending = s.pending := by
  simp only [State.answerFrame]; split <;> rfl

theorem State.takeBody_pending (p : PortId) (body : List Byte) : (s.takeBody p body).pending = s.pending := by
  simp only [State.takeBody]
  split
  · exact s.answerFrame_pending p _ _ _
  · exact s.answerFrame_pending p _ _ _
  · exact s.takeCommand_pending _

theorem State.takeByte_pending (p : PortId) (b : Byte) (error : Bool) : (s.takeByte p b error).pending = s.pending := by
  simp only [State.takeByte]
  split
  · rfl
  · split
    · rfl
    · split
      · split <;> rfl
      · split <;> rfl
      · split
        · rfl
        · split
          · exact (s.hunt p).takeBody_pending p _
          · rfl

theorem State.startUp_pending : s.startUp.pending = s.pending := by
  have reported (t : State) : t.reportImage.pending = t.pending := by
    simp only [State.reportImage]; split <;> simp
  exact reported s.load

theorem State.endHold_pending : s.endHold.pending = s.pending := by
  simp only [State.endHold]
  split
  · exact s.startUp_pending
  · rfl

theorem State.transmitted_pending (p : PortId) : (s.transmitted p).pending = s.pending := by
  simp only [State.transmitted]
  split
  · split
    · rfl
    · split
      · exact State.startUp_pending _
      · rfl
  · rfl
  · rfl

theorem State.seatExpired_pending (p : Pole) : (s.seatExpired p).pending = s.pending := by
  simp only [State.seatExpired]; split <;> simp

theorem State.gapExpired_pending : s.gapExpired.pending = s.pending := by
  simp only [State.gapExpired]; split <;> simp

theorem State.loweringExpired_pending : s.loweringExpired.pending = s.pending := by
  simp only [State.loweringExpired]; split <;> simp

theorem State.windowExpired_pending : s.windowExpired.pending = s.pending := by
  simp only [State.windowExpired]; (repeat' split) <;> simp

theorem State.auxEvent_pending (i : Slot) (due : AuxRecord → Bool) (f : AuxRecord → Sequencer) :
    (s.auxEvent i due f).pending = s.pending := by
  simp only [State.auxEvent]; (repeat' split) <;> simp

theorem State.stallExpired_pending : s.stallExpired.pending = s.pending := by
  simp only [State.stallExpired]; (repeat' split) <;> simp

theorem State.saveCompleted_pending (agrees : Bool) : (s.saveCompleted agrees).pending = s.pending := by
  simp only [State.saveCompleted]; split <;> simp

/-- A complete frame is an event that a deaf port does not take, and it leaves the queue where what it does to a hunting
receiver's part does (R171). -/
theorem State.actFrame_eq_act (p : PortId) (f : State → State) (h : (f (s.hunt p)).pending = s.pending) :
    ∃ g : State → State, s.actFrame p f = s.act g ∧ (g s).pending = s.pending := by
  refine ⟨_, rfl, ?_⟩
  split
  · rfl
  · exact h

end

/-! ## Every command -/

/-- The commands that reach a part in reset as they reach one out of reset: the supply's and RESETN's events (R165). -/
abbrev resetEvents : List Instr :=
  [.powerOn, .supplyLow, .retentionLost, .supplyStableExpiry, .pinResetAssert, .pinResetRelease]

/-- Every other command is an event or a frame that is taken whole while no reset is in progress, and what it does
leaves the queue (R165, R171; logs 4, 27). -/
theorem exec_eq_act (i : Instr) (s : State) (other : i ∉ resetEvents) :
    ∃ f : State → State, exec i s = s.act f ∧ (f s).pending = s.pending := by
  cases hb : bodyOf i with
  | some x =>
    rw [exec_of_bodyOf i x hb]
    exact s.actFrame_eq_act x.1 _ ((s.hunt x.1).takeCommand_pending i)
  | none =>
    unfold exec
    cases i with
    | sweepCompletion codes => exact ⟨_, rfl, by split <;> simp⟩
    | seatTimerExpiry p => exact ⟨_, rfl, s.seatExpired_pending p⟩
    | gapTimerExpiry => exact ⟨_, rfl, s.gapExpired_pending⟩
    | loweringTimerExpiry => exact ⟨_, rfl, s.loweringExpired_pending⟩
    | windowExpiry => exact ⟨_, rfl, s.windowExpired_pending⟩
    | frameExpiry => exact ⟨_, rfl, by split <;> simp⟩
    | recloseExpiry => exact ⟨_, rfl, by split <;> rfl⟩
    | inrushExpiry | onTimerExpiry | runTimerExpiry | offInhibitExpiry => exact ⟨_, rfl, s.auxEvent_pending _ _ _⟩
    | stallTimerExpiry => exact ⟨_, rfl, s.stallExpired_pending⟩
    | saveCompletion agrees => exact ⟨_, rfl, s.saveCompleted_pending agrees⟩
    | receiveGapTimeout p => exact ⟨_, rfl, by split <;> rfl⟩
    | frameCheckFailed p failure => exact s.actFrame_eq_act p (fun u => u.failFrame p (countFailure failure)) rfl
    | unknownRequest p tag kind =>
      exact s.actFrame_eq_act p (fun u => u.answerFrame p kind tag .unknown) ((s.hunt p).answerFrame_pending p _ _ _)
    | transmitComplete p => exact ⟨_, rfl, s.transmitted_pending p⟩
    | byteReceived p b error => exact ⟨_, rfl, s.takeByte_pending p b error⟩
    | powerOn | supplyLow | retentionLost | supplyStableExpiry | pinResetAssert | pinResetRelease => simp at other
    | _ => cases hb

/-- The supply's and RESETN's events answer a state, and start-up keeps the queue (R165, R167; log 27). -/
theorem exec_resetEvents_answers (i : Instr) (s : State) (reset : i ∈ resetEvents) :
    ∃ t, exec i s = .next t ∧ t.pending = s.pending := by
  simp only [resetEvents, List.mem_cons, List.not_mem_nil, or_false] at reset
  rcases reset with rfl | rfl | rfl | rfl | rfl | rfl
  · exact ⟨_, rfl, rfl⟩
  · exact ⟨_, rfl, rfl⟩
  · exact ⟨_, rfl, rfl⟩
  · simp only [exec, execSupplyStableExpiry]
    split
    · exact ⟨_, rfl, State.endHold_pending _⟩
    · exact ⟨_, rfl, rfl⟩
  · simp only [exec, execPinResetAssert]
    split <;> exact ⟨_, rfl, rfl⟩
  · simp only [exec, execPinResetRelease]
    split
    · exact ⟨_, rfl, State.endHold_pending _⟩
    · exact ⟨_, rfl, rfl⟩

/-- Settles O3: a command is an event or a frame that a part in reset does not take, or one of the six events of
resets. -/
theorem everyCommandAnswersAState : Obligations.EveryCommandAnswersAState := by
  refine ⟨fun i s => ?_, fun i s down other => ?_⟩
  · by_cases reset : i ∈ resetEvents
    · exact exec_resetEvents_answers i s reset
    · obtain ⟨f, taken, queue⟩ := exec_eq_act i s reset
      refine ⟨_, taken.trans (s.act_next f), ?_⟩
      split
      · exact queue
      · rfl
  · obtain ⟨f, taken, -⟩ := exec_eq_act i s other
    exact taken.trans (s.act_of_down f down)

end Sys2Proof.Machine

namespace Sys2Proof.Machine

/-! ## Resets (R165) -/

/-- A reset abandons what is in flight and keeps all else, whatever it makes of holds and causes (R165; log 23). -/
theorem State.abandon_abandoned (s : State) (w : Power) : ({ s.abandon with power := w } : State).Abandoned s := by
  refine ⟨rfl, rfl, rfl, rfl, rfl, rfl, fun i => ?_, rfl, rfl, rfl, fun p => ?_⟩
  · simp [State.abandon]
    rfl
  · simp [State.abandon, Port.abandon]

/-- The end of a hold that is not the last leaves the part in reset (R165). -/
theorem State.endHold_of_down (s : State) (held : s.up = false) : s.endHold = s := by
  rw [State.endHold, if_neg (by simp [held])]

/-- The end of the last hold starts the part up, and the transmitters make their choice (R165, R167, R176). -/
theorem State.endHold_of_up (s : State) (free : s.up = true) : s.endHold = s.startUp.beginWaiting := if_pos free

/-- The 10 ms wait over, the supply holds the part no more (R165). -/
theorem exec_supplyStableExpiry_of_held (s : State) (held : s.power.supplyHold = true)
    (waits : s.power.stableWait.isRunning = true) : exec .supplyStableExpiry s =
      .next ({ s with power := { s.power with supplyHold := false, stableWait := .stopped } } : State).endHold :=
  if_pos (by rw [held, waits]; rfl)

/-- RESETN high again, it holds the part no more (R165). -/
theorem exec_pinResetRelease_of_held (s : State) (held : s.power.pinHold = true) : exec .pinResetRelease s =
    .next ({ s with power := { s.power with pinHold := false } } : State).endHold :=
  if_pos held

/-- RESETN driven low begins a reset, or lengthens one of the supply's (R165). -/
theorem exec_pinResetAssert_of_free (s : State) (free : s.power.pinHold = false) : exec .pinResetAssert s =
    .next { s.abandon with power := { s.power with pinHold := true, lastCause := .pin } } :=
  if_neg (by rw [free]; exact Bool.false_ne_true)

/-- A part out of reset is held by neither the supply nor RESETN (R165). -/
theorem State.holds_of_up {s : State} (up : s.up = true) : s.power.supplyHold = false ∧ s.power.pinHold = false := by
  simpa [State.up] using up

/-- Settles O4: each of the four events abandons what is in flight and sets its own hold and cause, and a hold that ends
beside another leaves the part in reset. -/
theorem resetCausesHoldThePart : Obligations.ResetCausesHoldThePart := by
  refine ⟨fun s => ⟨⟨_, rfl, s.abandon_abandoned _, rfl⟩, ⟨_, rfl, s.abandon_abandoned _, rfl⟩,
    fun free => ⟨_, exec_pinResetAssert_of_free s free, s.abandon_abandoned _, rfl⟩, fun held => if_pos held, rfl⟩,
    fun s => ⟨fun held waits pin => ?_, fun pin held => ?_⟩⟩
  · rw [exec_supplyStableExpiry_of_held s held waits, State.endHold_of_down _ (by simp [State.up, pin])]
  · rw [exec_pinResetRelease_of_held s pin, State.endHold_of_down _ (by simp [State.up, held])]

/-! ## Start-up (R162, R165, R167, R168) -/

/-- The image that start-up loads: the one the memory holds, and the defaults where it holds none (R162). -/
theorem NvMemory.judge_image (n : NvMemory) :
    (∀ g, n.Holds g → n.judge.2 = g) ∧ ((¬∃ g, n.Holds g) → n.judge.2 = .defaults) := by
  refine ⟨fun g holds => by rw [n.judge_valid g holds], fun invalid => ?_⟩
  by_cases blank : n.Blank
  · rw [n.judge_blank blank]
  · rw [n.judge_corrupt blank invalid]

/-- A valid or a blank image is not judged corrupt (R162). -/
theorem NvMemory.judge_sound (n : NvMemory) (h : (∃ g, n.Holds g) ∨ n.Blank) : n.judge.1 ≠ .corrupt := by
  rcases h with ⟨g, holds⟩ | blank
  · rw [n.judge_valid g holds]; nofun
  · rw [n.judge_blank blank]; nofun

/-- The fault table that start-up leaves: emptied after POWER_ON and kept after any other cause, with CONFIG_CORRUPT
latched STOPPING and counted where the image is corrupt (R167, R168). -/
theorem State.startUp_faults (s : State) :
    let u := s.startUp.beginWaiting
    let emptied := s.power.cause = .powerOn
    let kept := if emptied then Vector.replicate 16 .cleared else s.router.faults
    ∃ faults, u.StartedFrom s s.store.nv.judge.2 faults ∧
      (s.store.nv.judge.1 ≠ .corrupt → faults = kept) ∧
      (s.store.nv.judge.1 = .corrupt → u.router.mode = .halt ∧ (faults[14]).latch = .stopping ∧
        (faults[14]).count = (if emptied then 1 else min ((s.router.faults[14]).count + 1) 65535) ∧
        ∀ i : Fin 16, i ≠ 14 → faults[i] = if emptied then .cleared else s.router.faults[i]) := by
  intro u emptied kept
  have entry (i : Fin 16) : kept[i] = if emptied then .cleared else s.router.faults[i] := by
    by_cases cause : emptied <;> simp [kept, cause]
  by_cases judged : s.store.nv.judge.1 = .corrupt
  · obtain ⟨f, started, latch, count, halt⟩ := s.startUp_corrupt judged
    refine ⟨kept.set 14 f, started, fun sound => absurd judged sound, fun _ => ⟨halt, ?_, ?_, fun i other => ?_⟩⟩
    · simpa using latch
    · have counted : f.count = satSucc 65535 (if emptied then FaultEntry.cleared else s.router.faults[14]).count :=
        count.trans (congrArg (fun e => satSucc 65535 (FaultEntry.count e)) (entry 14))
      rw [show (kept.set 14 f)[14] = f by simp, counted]
      by_cases cause : emptied
      · rw [if_pos cause, if_pos cause]; rfl
      · rw [if_neg cause, if_neg cause]; rfl
    · have apart : (14 : Nat) ≠ i.val := fun same => other (Fin.ext same.symm)
      rw [← entry i]
      simp [apart]
  · exact ⟨kept, s.startUp_started judged, fun _ => rfl, fun corrupt => absurd corrupt judged⟩

/-- Start-up as the statements have it: what it leaves of each block, and of the fault table by the judgement of the
image (R162, R165, R167, R168). -/
theorem State.startUp_startedUp (s : State) (up : s.up = true) :
    s.startUp.beginWaiting.StartedUp s s.power.lastCause := by
  obtain ⟨supply, pin⟩ := State.holds_of_up up
  set n := s.store.nv with memory
  obtain ⟨faults, ⟨meas, contact, sections, aux, allot, alarm, routing, table, mode, store, power, pending, ports⟩,
      sound, corrupt⟩ := s.startUp_faults
  obtain ⟨held, default⟩ := n.judge_image
  refine ⟨n.judge.2, held, default, meas, contact, sections, aux, allot, alarm, routing,
    fun good => table.trans (sound (n.judge_sound good)), mode, by rw [store], by rw [store], by rw [store]; rfl,
    by rw [store], fun blank => ?_, fun ⟨g, holds⟩ => ?_, fun unblank invalid => ?_, by rw [power], ?_, pending, ports⟩
  · rw [store]; exact congrArg Prod.fst (n.judge_blank blank)
  · rw [store]; exact congrArg Prod.fst (n.judge_valid g holds)
  · have judged : n.judge.1 = .corrupt := congrArg Prod.fst (n.judge_corrupt unblank invalid)
    obtain ⟨halt, latch, count, others⟩ := corrupt judged
    rw [table]
    exact ⟨by rw [store]; exact judged, halt, latch, count, others⟩
  · simp only [State.up, power, supply, pin]
    rfl

/-- Of the state before a reset, start-up rests on the memory, the retained part, the retention flag and the queue
alone (R165, R167). -/
theorem State.StartedUp.of_retained {u s t : State} {last : ResetCause} (h : u.StartedUp s last)
    (memory : t.store.nv = s.store.nv) (alarm : t.alarm = s.alarm) (faults : t.router.faults = s.router.faults)
    (retention : t.power.retention = s.power.retention) (pending : t.pending = s.pending) : u.StartedUp t last := by
  unfold State.StartedUp
  rw [memory, alarm, faults, retention, pending]
  exact h

/-- Settles O5: either event ends the last hold, and start-up runs on a state that differs from the one before in the
holds alone. -/
theorem startUpLoadsEveryBlock : Obligations.StartUpLoadsEveryBlock := by
  rintro c s (⟨rfl, pin, supply⟩ | ⟨rfl, supply, waits, pin⟩)
  · have up : ({ s with power := { s.power with pinHold := false } } : State).up = true := by simp [State.up, supply]
    rw [exec_pinResetRelease_of_held s pin, State.endHold_of_up _ up]
    exact ⟨_, rfl, (State.startUp_startedUp _ up).of_retained rfl rfl rfl rfl rfl⟩
  · have up : ({ s with power := { s.power with supplyHold := false, stableWait := .stopped } } : State).up = true := by
      simp [State.up, pin]
    rw [exec_supplyStableExpiry_of_held s supply waits, State.endHold_of_up _ up]
    exact ⟨_, rfl, (State.startUp_startedUp _ up).of_retained rfl rfl rfl rfl rfl⟩

/-! ## The LINK reset (R165, R166) -/

/-- The state on which a LINK reset's start-up runs, as the end of the reply leaves it (R165, R166). -/
def State.linked (s : State) (p : PortId) : State :=
  let freed := s.setPort p { s.ports[p] with tx := none, slot := none }
  { freed.abandon with power := { s.power with lastCause := .link } }

/-- The end of the last part of an accepted RESET's reply begins the LINK reset, which ends at once (R166). -/
theorem exec_transmitComplete_of_reset (p : PortId) (s : State) (r : ReplySlot) (up : s.up = true)
    (sending : (s.ports[p]).tx = some .replyPart) (held : (s.ports[p]).slot = some r) (last : r.parts ≤ r.sent + 1)
    (kind : r.reply.kind = 0x31) (code : r.reply.code = .ok) :
    exec (.transmitComplete p) s = .next (s.linked p).startUp.beginWaiting := by
  have resets : r.reply.startsReset = true := by rw [Reply.startsReset, kind, code]; rfl
  have sent : s.transmitted p = (s.linked p).startUp := by
    simp only [State.transmitted, sending, held]
    rw [if_neg (by omega), if_pos resets]
    rfl
  rw [← sent]
  exact s.act_of_up (fun s => s.transmitted p) up

/-- Settles O9: the start-up of the LINK reset runs on the state before, abandoned and with the cause LINK, and that cause
rules out RUN. -/
theorem linkResetFollowsItsReply : Obligations.LinkResetFollowsItsReply := by
  intro p s r up sending held last kind code
  have started : (s.linked p).startUp.beginWaiting.StartedUp s .link :=
    (State.startUp_startedUp (s.linked p) up).of_retained rfl rfl rfl rfl rfl
  refine ⟨_, exec_transmitComplete_of_reset p s r up sending held last kind code, started, fun retained => ?_⟩
  obtain ⟨g, -, -, -, -, -, -, -, -, -, -, mode, -, -, cause, -⟩ := started
  rw [if_pos retained] at cause mode
  refine ⟨cause, ?_⟩
  rw [mode]
  split
  · nofun
  · rw [if_neg fun ⟨_, other, _⟩ => other rfl]
    nofun

end Sys2Proof.Machine

namespace Sys2Proof.Machine

/-! ## A power-on with a blank image (R13, R35, R54, R68, R95, R139, R161, R179) -/

/-- What loading makes of a blank image after POWER_ON is the same whatever went before, but for the queue (R167;
log 1). -/
theorem State.load_of_blank (s : State) (blank : s.store.nv = .erased)
    (power : s.power = ⟨false, false, .stopped, .powerOn, false⟩) :
    s.load = { State.reset.load with pending := s.pending } := by
  simp only [State.load, blank, power]
  rfl

/-- Start-up from a blank image after POWER_ON ends in the model's reset state: the first mode is SETUP, and each
transmitter begins the MODE notice (R167, R168, R176; log 1). -/
theorem State.startUp_of_blank (s : State) (blank : s.store.nv = .erased)
    (power : s.power = ⟨false, false, .stopped, .powerOn, false⟩) :
    s.startUp.beginWaiting = { State.reset with pending := s.pending } := by
  have plain : ({ State.reset.load with pending := s.pending } : State).reportImage =
    { State.reset.load with pending := s.pending } := rfl
  have setup : ({ State.reset.load with pending := s.pending } : State).firstMode = .setup := rfl
  rw [State.startUp, s.load_of_blank blank power, plain, setup]
  rfl

/-- Settles O6: POWER_ON leaves the part with the retention flag clear, and the wait's end starts it up from the blank
image. -/
theorem powerOnWithBlankImageReachesReset : Obligations.PowerOnWithBlankImageReachesReset := by
  rintro s t blank pin taken
  cases taken
  rw [exec_supplyStableExpiry_of_held _ rfl rfl, State.endHold_of_up _ (by simp [State.up, pin])]
  exact congrArg Host.Outcome.next (State.startUp_of_blank _ blank
    (congrArg (fun pin => (⟨false, pin, .stopped, .powerOn, false⟩ : Power)) pin))

/-! ## A reset that finds a save in flight (R163, R165, R166) -/

/-- The configured parts that start-up has loaded are the image's (R122, R139). -/
theorem Sequencer.afterReset_configs (g : Image) :
    (Vector.ofFn fun i : Slot => ((Sequencer.afterReset g).table[i]).map AuxRecord.config) = g.auxTable := by
  ext1 i hi
  simp only [Sequencer.afterReset, Vector.getElem_ofFn, Fin.getElem_fin, Option.map_map]
  exact congrFun Option.map_id _

/-- After start-up from a torn memory, which is corrupt, the part is in HALT with CONFIG_CORRUPT latched STOPPING, and
every setting is at its default (R163, R167, R168). -/
theorem State.StartedUp.of_torn {u s : State} {last : ResetCause} (h : u.StartedUp s last) (torn : s.store.nv = .torn) :
    u.store.imageState = .corrupt ∧ u.store.save = none ∧ u.router.mode = .halt ∧
      (u.router.faults[14]).latch = .stopping ∧ u.settingsImage = Image.defaults := by
  have unblank : ¬s.store.nv.Blank := by rw [torn]; rintro (h | ⟨_, _, h, _⟩) <;> cases h
  have invalid : ¬∃ g, s.store.nv.Holds g := by rw [torn]; rintro ⟨g, -, h, -⟩; cases h
  obtain ⟨g, -, default, meas, contact, sections, aux, allot, alarm, routing, -, -, -, save, -, autoRun, -, -, corrupt,
    -, -, -, ports⟩ := h
  obtain ⟨image, halt, latch, -⟩ := corrupt unblank invalid
  refine ⟨image, save, halt, latch, ?_⟩
  have written : (Vector.ofFn fun p : PortId => (u.ports[p]).written) = g.ports := by
    ext1 i hi
    obtain ⟨-, same, -⟩ := ports ⟨i, hi⟩
    simpa using same
  have policy : u.alarm.policy = g.policy := by
    rw [alarm, apply_ite AlarmUnit.policy]
    exact ite_self _
  rw [← default invalid]
  simp only [State.settingsImage, written, policy, meas, contact, sections, aux, allot, routing, autoRun,
    Sequencer.afterReset_configs]
  rfl

/-- A supply's or RESETN's reset of a part that is out of reset ends in a start-up that finds the memory as it was
(R165, R167). -/
theorem startedUp_of_held_reset {s t u : State} {begins ends : Instr} (up : s.up = true)
    (pair : (begins, ends) ∈ [(Instr.powerOn, Instr.supplyStableExpiry), (Instr.supplyLow, Instr.supplyStableExpiry),
      (Instr.pinResetAssert, Instr.pinResetRelease)])
    (begun : exec begins s = .next t) (ended : exec ends t = .next u) :
    t.store.nv = s.store.nv ∧ u.StartedUp t t.power.lastCause := by
  obtain ⟨supply, pin⟩ := State.holds_of_up up
  obtain ⟨begin, -⟩ := resetCausesHoldThePart
  obtain ⟨⟨a, doneA, keptA, powerA⟩, ⟨b, doneB, keptB, powerB⟩, asserted, -⟩ := begin s
  obtain ⟨c, doneC, keptC, powerC⟩ := asserted pin
  have memory {x : State} (kept : x.Abandoned s) : x.store.nv = s.store.nv := by
    obtain ⟨-, -, -, -, -, -, -, -, store, -⟩ := kept
    rw [store]
  have start {x : State} (last : (ends = .pinResetRelease ∧ x.power.pinHold = true ∧ x.power.supplyHold = false ∨
      ends = .supplyStableExpiry ∧ x.power.supplyHold = true ∧ x.power.stableWait.isRunning = true ∧
        x.power.pinHold = false)) (finished : exec ends x = .next u) : u.StartedUp x x.power.lastCause := by
    obtain ⟨v, done, started⟩ := startUpLoadsEveryBlock ends x last
    cases finished.symm.trans done
    exact started
  simp only [List.mem_cons, List.not_mem_nil, or_false, Prod.mk.injEq] at pair
  rcases pair with ⟨rfl, rfl⟩ | ⟨rfl, rfl⟩ | ⟨rfl, rfl⟩
  · cases begun.symm.trans doneA
    exact ⟨memory keptA, start (.inr (by rw [powerA, pin]; exact ⟨rfl, rfl, rfl, rfl⟩)) ended⟩
  · cases begun.symm.trans doneB
    exact ⟨memory keptB, start (.inr (by rw [powerB, pin]; exact ⟨rfl, rfl, rfl, rfl⟩)) ended⟩
  · cases begun.symm.trans doneC
    exact ⟨memory keptC, start (.inl (by rw [powerC]; exact ⟨rfl, rfl, supply⟩)) ended⟩

/-- A RESET that the CAB's port takes outside RUN abandons a save in flight and is answered OK (R166). -/
theorem exec_reset_of_taken {s : State} {p : PortId} (tag : Byte) (hears : s.Hears p) (cab : s.role p = .cab)
    (mode : s.router.mode ≠ .run) :
    exec (.reset p tag) s = .next ((s.hunt p).abandonSave.answered p 0x31 tag .ok) := by
  have taken : answerReset (s.hunt p) = (s.hunt p).abandonSave.ok := if_neg mode
  rw [show exec (.reset p tag) s = _ from (State.actRequest_of_cab hears 0x31 tag answerReset (by decide)).1 cab, taken]
  rfl

/-- An answer without content at a port whose transmitter is idle: its one part is being sent (R173, R176). -/
theorem State.answered_port (u : State) (p : PortId) (kind tag : Byte) (code : ReplyCode)
    (idle : (u.ports[p]).tx = none) :
    ((u.answered p kind tag code).ports[p]).tx = some .replyPart ∧
      ((u.answered p kind tag code).ports[p]).slot = some ⟨⟨kind, tag, code, .none⟩, 1, 0⟩ := by
  simp only [Fin.getElem_fin] at idle
  have parts : Reply.parts ⟨kind, tag, code, .none⟩ = 1 := by simp [Reply.parts, ReplyContent.isShort]
  simp [State.answered, State.enterReply, Port.beginWaiting, idle, parts]

/-- The end of an accepted RESET's reply ends in the start-up of the part that sent it (R166, R167). -/
theorem startedUp_of_link_reset {s u : State} {p : PortId} {r : ReplySlot} (up : s.up = true)
    (sending : (s.ports[p]).tx = some .replyPart) (held : (s.ports[p]).slot = some r) (last : r.parts ≤ r.sent + 1)
    (kind : r.reply.kind = 0x31) (code : r.reply.code = .ok) (sent : exec (.transmitComplete p) s = .next u) :
    u.StartedUp s .link := by
  obtain ⟨v, done, started, -⟩ := linkResetFollowsItsReply p s r up sending held last kind code
  cases sent.symm.trans done
  exact started

/-- Settles O8: whichever reset it is, its start-up finds the memory torn. -/
theorem resetDuringSaveFindsTheImageCorrupt : Obligations.ResetDuringSaveFindsTheImageCorrupt := by
  intro s u up law saving way
  obtain ⟨torn, -⟩ := law saving
  obtain ⟨x, last, memory, started⟩ : ∃ (x : State) (last : ResetCause), x.store.nv = .torn ∧ u.StartedUp x last := by
    rcases way with ⟨begins, ends, t, pair, begun, ended⟩ | ⟨p, r, sending, held, last, kind, code, sent⟩ |
      ⟨p, tag, t, hears, cab, mode, idle, taken, sent⟩
    · obtain ⟨same, started⟩ := startedUp_of_held_reset up pair begun ended
      exact ⟨t, _, same.trans torn, started⟩
    · exact ⟨s, _, torn, startedUp_of_link_reset up sending held last kind code sent⟩
    · cases taken.symm.trans (exec_reset_of_taken tag hears cab mode)
      obtain ⟨-, -, abandoned⟩ := (s.hunt p).abandonSave_store
      obtain ⟨sending, held⟩ := (s.hunt p).abandonSave.answered_port p 0x31 tag .ok (by simpa using idle)
      have running : ((s.hunt p).abandonSave.answered p 0x31 tag .ok).up = true := by
        simpa [State.up, State.answered] using up
      exact ⟨(s.hunt p).abandonSave.answered p 0x31 tag .ok, _, congrArg Store.nv (abandoned saving),
        startedUp_of_link_reset running sending held le_rfl rfl rfl sent⟩
  exact started.of_torn memory

end Sys2Proof.Machine

namespace Sys2Proof.Machine

/-! ## SAVE, RESET and the completion of a save (R162 to R164, R166) -/

/-- A receiver that hunts again leaves the settings as most recently accepted (R163, R171). -/
theorem State.settingsImage_hunt (s : State) (p : PortId) : (s.hunt p).settingsImage = s.settingsImage := by
  have written : (Vector.ofFn fun q : PortId => ((s.hunt p).ports[q]).written) =
      Vector.ofFn fun q : PortId => (s.ports[q]).written := by
    ext1 i hi
    simp only [Vector.getElem_ofFn, Fin.getElem_fin, State.hunt, State.setPort_port]
    split
    · next same => subst same; rfl
    · rfl
  simp only [State.settingsImage, written]
  rfl

/-- SAVE, by its conditions in their order (R163). -/
theorem answerSave_eq (s : State) :
    (s.router.mode ≠ .setup → answerSave s = s.refuse .modeRefused) ∧
    (s.router.mode = .setup → s.store.save.isSome = true → answerSave s = s.refuse .busy) ∧
    (s.router.mode = .setup → s.store.save = none → answerSave s = ({ s with store :=
      { s.store with save := some ⟨s.settingsImage, 0⟩, imageState := .writing, nv := .torn } } : State).ok) := by
  refine ⟨fun mode => if_pos mode, fun setup busy => ?_, fun setup free => ?_⟩
  · simp [answerSave, setup, busy]
  · simp [answerSave, setup, free]

/-- The completion of a save: the image read back agrees with the snapshot or not, and every port is told (R164). -/
theorem State.saveCompleted_of_saving (s : State) (agrees : Bool) (v : SaveInFlight) (saving : s.store.save = some v) :
    s.saveCompleted agrees = ({ s with store := { s.store with
        save := none
        nv := (if agrees then
            .written v.snapshot (BitVec.ofNat 16 ((Config.imageBytes v.snapshot).map BitVec.toNat).sum) else .torn)
        imageState := if agrees then .valid else .corrupt } } : State).queueTo (fun _ => true)
          (.mode s.router.mode none (.saveDone agrees)) := by
  rw [State.saveCompleted, saving, ← checksumOf_eq]
  rfl

/-- Settles O59: SAVE and RESET by the role and the mode, and a completion by the save it finds. -/
theorem saveTakesAndJudgesItsSnapshot : Obligations.SaveTakesAndJudgesItsSnapshot := by
  refine ⟨fun p tag s hears => ?_, fun agrees v s up => ⟨fun saving => ?_, fun free => ?_⟩⟩
  · intro h save reset
    obtain ⟨cabSave, otherSave⟩ := State.actRequest_of_cab hears 0x30 tag answerSave (by decide)
    obtain ⟨cabReset, otherReset⟩ := State.actRequest_of_cab hears 0x31 tag answerReset (by decide)
    refine ⟨fun role => ⟨otherSave role, otherReset role⟩, fun role => ?_⟩
    have saved {u : State} {code : ReplyCode} (hx : answerSave h = { state := u, code := code }) : save u code :=
      (cabSave role).trans (by rw [hx])
    have abandons (mode : s.router.mode ≠ .run) : reset h.abandonSave .ok := exec_reset_of_taken tag hears role mode
    obtain ⟨refused, busy, begun⟩ := answerSave_eq h
    obtain ⟨-, kept, -⟩ := h.abandonSave_store
    refine ⟨fun mode => saved (refused mode), fun setup saving => saved (busy setup saving), fun setup free => ?_,
      fun run => (cabReset role).trans (by rw [show answerReset h = h.refuse .modeRefused from if_pos run]; rfl),
      fun mode => ⟨fun free => by rw [← kept free]; exact abandons mode, fun saving => ?_⟩⟩
    · refine ⟨h.settingsImage, saved (begun setup free), ?_⟩
      rw [s.settingsImage_hunt p]
      refine ⟨fun q => ?_, rfl, rfl, rfl, rfl, rfl, rfl, rfl, rfl, rfl, fun i => ?_, rfl, rfl, rfl⟩
      · simp [State.settingsImage]
      · simp [State.settingsImage]
    · obtain ⟨v, held⟩ := Option.isSome_iff_exists.1 saving
      have left : h.abandonSave =
          { h with store := { s.store with save := none, imageState := .corrupt, nv := .torn } } := by
        rw [State.abandonSave, show h.store.save = some v from held]
        rfl
      rw [← left]
      exact abandons mode
  · rw [← s.saveCompleted_of_saving agrees v saving]
    exact s.act_of_up (fun s => s.saveCompleted agrees) up
  · have nothing : s.saveCompleted agrees = s := by rw [State.saveCompleted, free]
    exact (s.act_of_up (fun s => s.saveCompleted agrees) up).trans (by rw [nothing])

end Sys2Proof.Machine

namespace Sys2Proof.Machine

/-! ## What a port keeps while a command is taken (R173, R175, R177) -/

/-- What every operation but a transmission's end, a transmitter's choice and a reset leaves of a port: its settings in
force, what its transmitter sends, a reply once it is in the slot, and at most one waiting notice of each kind. -/
structure Port.Keeps (a b : Port) : Prop where
  inForce : b.inForce = a.inForce
  tx : b.tx = a.tx
  slot : a.slot.isSome = true → b.slot.isSome = true
  kinds : (a.queue.map Notice.kind).Nodup → (b.queue.map Notice.kind).Nodup

theorem Port.Keeps.refl (a : Port) : a.Keeps a := ⟨rfl, rfl, id, id⟩

theorem Port.Keeps.trans {a b c : Port} (h : a.Keeps b) (h' : b.Keeps c) : a.Keeps c :=
  ⟨h'.inForce.trans h.inForce, h'.tx.trans h.tx, h'.slot ∘ h.slot, h'.kinds ∘ h.kinds⟩

/-- Every port of the second state keeps what it has in the first. -/
def State.PortsKept (s t : State) : Prop := ∀ p : PortId, (s.ports[p]).Keeps t.ports[p]

theorem State.PortsKept.refl (s : State) : s.PortsKept s := fun _ => .refl _

/-- What leaves the ports keeps them. -/
theorem State.PortsKept.same {v s t : State} (h : v.PortsKept s) (ports : t.ports = s.ports) :
    v.PortsKept t := by
  simpa only [State.PortsKept, ports] using h

/-- A notice of a kind that waits is taken in by its entry, so no kind comes to wait twice (R175). -/
theorem enqueue_nodup (n : Notice) (q : List Notice) (h : (q.map Notice.kind).Nodup) :
    ((enqueue n q).map Notice.kind).Nodup := by
  rw [enqueue_kinds]
  split
  · exact h
  · next new => exact List.nodup_append.2 ⟨h, List.nodup_singleton _, fun a ha b hb => by grind⟩

section
variable {v s : State} (h : v.PortsKept s)
include h

theorem State.PortsKept.mapPorts (f : PortId → Port → Port) (hf : ∀ p (port : Port), port.Keeps (f p port)) :
    v.PortsKept (s.mapPorts f) := fun p => by
  rw [Fin.getElem_fin, Fin.getElem_fin, State.mapPorts_port]
  exact (h p).trans (hf _ _)

theorem State.PortsKept.setPort (p : PortId) (port : Port) (hp : (s.ports[p]).Keeps port) :
    v.PortsKept (s.setPort p port) := fun q => by
  by_cases same : q = p
  · subst same
    rw [Fin.getElem_fin, Fin.getElem_fin, State.setPort_same]
    exact (h q).trans hp
  · rw [State.setPort_other s p q port same]
    exact h q

theorem State.PortsKept.queueTo (dest : PortId → Bool) (n : Notice) : v.PortsKept (s.queueTo dest n) :=
  State.PortsKept.mapPorts h _ fun p port => by
    split
    · exact ⟨rfl, rfl, id, enqueue_nodup n _⟩
    · exact .refl _

theorem State.PortsKept.notify (n : Notice) : v.PortsKept (s.notify n) := h.queueTo _ n

theorem State.PortsKept.withdrawRaise : v.PortsKept s.withdrawRaise :=
  State.PortsKept.mapPorts h _ fun _ port => by
    split
    · exact ⟨rfl, rfl, id, fun nodup => nodup.sublist (List.filter_sublist.map _)⟩
    · exact .refl _

/-! ## What keeps the ports: the allotment unit, the sequencer and the section unit -/

theorem State.PortsKept.setAux (a : Sequencer) : v.PortsKept (s.setAux a) := by
  simp only [State.setAux]
  split
  · exact h.same (by simp)
  · exact (State.PortsKept.same h (by simp)).notify _

theorem State.PortsKept.publish : v.PortsKept s.publish := h.notify _

theorem State.PortsKept.takeCut : v.PortsKept s.takeCut := by
  simp only [State.takeCut, State.shedOnCut]
  exact (State.PortsKept.setAux (h.same (by simp)) _).publish

theorem State.PortsKept.takeRestore : v.PortsKept s.takeRestore :=
  h.same (by simp)

theorem State.PortsKept.takeOvervoltageCut : v.PortsKept s.takeOvervoltageCut :=
  State.PortsKept.publish (h.same (by simp))

theorem State.PortsKept.takeModeCut (m : Mode) : v.PortsKept (s.takeModeCut m) :=
  (State.PortsKept.setAux (h.same (by simp)) _).publish

theorem State.PortsKept.takeLimits (l : Limits) : v.PortsKept (s.takeLimits l) := by
  simp only [State.takeLimits]
  split
  · exact State.PortsKept.publish (h.same (by simp))
  · exact h

theorem State.PortsKept.takeBatteryCut : v.PortsKept s.takeBatteryCut := by
  have marked : v.PortsKept (if 0 < s.allot.record.aCh then (s.setRecord s.allot.record.batteryCut).markCut
      else s.setRecord s.allot.record.batteryCut) := by
    split
    · exact h.same (by simp)
    · exact h.same (by simp)
  simp only [State.takeBatteryCut]
  split
  · exact marked.publish
  · exact marked

theorem State.PortsKept.takeBatteryLimit (i : Nat) : v.PortsKept (s.takeBatteryLimit i) := by
  simp only [State.takeBatteryLimit]
  split
  · exact State.PortsKept.publish (h.same (by simp))
  · exact h

theorem State.PortsKept.setInhibit (x : InhibitSource) : v.PortsKept (s.setInhibit x) := h.same (by simp)

theorem State.PortsKept.handLimits : v.PortsKept s.handLimits := h.takeLimits _

theorem State.PortsKept.handDefaultLimits : v.PortsKept s.handDefaultLimits := by
  simp only [State.handDefaultLimits]
  split
  · exact h.handLimits
  · exact h

theorem State.PortsKept.writeSection (e : SectionEntry) : v.PortsKept (s.writeSection e) := by
  simp only [State.writeSection]
  split
  · exact State.PortsKept.handLimits (h.same (by simp))
  · exact h.same (by simp)

omit h in
theorem State.PortsKept.writeSections (l : List SectionFields) {s : State} (h : v.PortsKept s) :
    v.PortsKept (s.writeSections l).1 := by
  induction l generalizing s with
  | nil => exact h
  | cons f l ih =>
    simp only [State.writeSections]
    split
    · exact h
    · exact ih (h.writeSection _)

theorem State.PortsKept.gapEnded : v.PortsKept s.gapEnded := by
  simp only [State.gapEnded]
  split
  · split
    · exact State.PortsKept.handLimits (h.same (by simp))
    · exact h
  · exact h

/-! ## What keeps the ports: the signals of the contact monitor and the alarms -/

theorem State.PortsKept.lineSignals (b a : ContactState) : v.PortsKept (s.lineSignals b a) := by
  simp only [State.lineSignals]
  split
  · exact h
  · split
    · exact h.takeCut
    · split
      · exact h.takeRestore
      · exact h

theorem State.PortsKept.sectionSignals (b a : ContactState) : v.PortsKept (s.sectionSignals b a) := by
  simp only [State.sectionSignals]
  split
  · exact h
  · split
    · exact h.same (by simp)
    · split
      · exact h.gapEnded
      · exact h
    · exact h.same (by simp)

theorem State.PortsKept.changeAlarms (u : AlarmUnit) : v.PortsKept (s.changeAlarms u) :=
  State.PortsKept.notify (h.same (by simp)) _

theorem State.PortsKept.conditionEnd (k : AlarmKey) : v.PortsKept (s.conditionEnd k) := by
  rcases s.conditionEnd_eq k with ⟨same, -⟩ | changed
  · rw [same]; exact h
  · rw [changed]; exact h.changeAlarms _

theorem State.PortsKept.endLineLost (b a : ContactState) : v.PortsKept (s.endLineLost b a) := by
  simp only [State.endLineLost]
  split
  · exact h.conditionEnd _
  · exact h

theorem State.PortsKept.noticeContact (c : Bool) : v.PortsKept (s.noticeContact c) := by
  simp only [State.noticeContact]
  split
  · exact h.notify _
  · exact h

theorem State.PortsKept.lowerPoles : v.PortsKept s.lowerPoles := by
  have ordered : v.PortsKept (s.notify (.poleOrder .lower)) := h.notify _
  rw [s.lowerPoles_eq _ rfl]
  refine .noticeContact (.endLineLost (.sectionSignals ?_ _ _) _ _) _
  exact State.PortsKept.lineSignals (ordered.same (by simp)) _ _

theorem State.PortsKept.enterAlarm (k : AlarmKey) (cls : Option ConditionClass) (b : ContactState) (n : Nat) :
    v.PortsKept (s.enterAlarm k cls b n) := by
  have withdrawn : v.PortsKept (if k.pole.isSome then s.withdrawRaise else s) := by
    split
    · exact h.withdrawRaise
    · exact h
  exact withdrawn.changeAlarms _

/-! ## What keeps the ports: the router and the hand-over -/

theorem State.PortsKept.changeMode (m : Mode) (c : ModeCause) : v.PortsKept (s.changeMode m c) := by
  simp only [State.changeMode]
  split
  · exact State.PortsKept.notify (h.same (by simp)) _
  · exact (State.PortsKept.takeModeCut (h.same (by simp)) _).notify _

theorem State.PortsKept.handleEvent (e : Event) : v.PortsKept (s.handleEvent e) := by
  have latched : v.PortsKept (s.latchEvent e) := by
    simp only [State.latchEvent]
    split
    · exact State.PortsKept.changeMode (h.same (by simp)) _ _
    · exact h.same (by simp)
  simp only [State.handleEvent]
  split
  · next a _ =>
    cases a with
    | lowerPoles => exact latched.lowerPoles.queueTo _ _
    | tractionInhibit x => exact (latched.setInhibit x).queueTo _ _
  · exact latched.queueTo _ _

omit h in
theorem State.PortsKept.handleEvents (es : List Event) {s : State} (h : v.PortsKept s) :
    v.PortsKept (s.handleEvents es) := by
  simp only [State.handleEvents]
  induction es generalizing s with
  | nil => exact h
  | cons e es ih => exact ih (h.handleEvent e)

omit h in
theorem State.PortsKept.takeAlarms (b : ContactState) (n : Nat) (xs : List AlarmSignal) {s : State}
    (h : v.PortsKept s) : v.PortsKept (xs.foldl (State.takeAlarm b n) s) := by
  induction xs generalizing s with
  | nil => exact h
  | cons x xs ih =>
    cases x with
    | raised k c => exact ih ((h.enterAlarm k c b n).handleEvent _)
    | ended k => exact ih (h.conditionEnd k)

/-- The contact monitor's hand-over reaches the ports through notices and the withdrawal of raise orders alone (R14). -/
theorem State.PortsKept.handOver (before : ContactUnit) (n : Nat) (x : HandOver) :
    v.PortsKept (s.handOver before n x) := by
  have event (t : State) (c : Prop) [Decidable c] (e : Event) (ht : v.PortsKept t) :
      v.PortsKept (if c then t.handleEvent e else t) := by
    split
    · exact ht.handleEvent e
    · exact ht
  have cut (t : State) (ht : v.PortsKept t) : v.PortsKept (if x.overvolt then t.takeOvervoltageCut else t) := by
    split
    · exact ht.takeOvervoltageCut
    · exact ht
  have signalled (b a : ContactState) : v.PortsKept ((s.settleContact.lineSignals b a).sectionSignals b a) :=
    (State.PortsKept.lineSignals (h.same (by simp)) _ _).sectionSignals _ _
  simp only [State.handOver]
  refine .noticeContact (event _ _ _ (event _ _ _ (.takeAlarms _ _ _ (.endLineLost (.takeAlarms _ _ _ ?_) _ _)))) _
  exact cut _ (signalled _ _)

/-! ## What keeps the ports: sweeps, expiries and frames -/

theorem State.PortsKept.sweep (codes : Vector RawCode 8) : v.PortsKept (s.sweep codes) := by
  have measured : v.PortsKept
      (({ s with meas := s.meas.complete (s.meas.takeCodes codes) } : State).handleEvents
        (faultEvents (s.meas.takeCodes codes))) := .handleEvents _ (h.same (by simp))
  exact State.PortsKept.handOver (measured.same (by simp)) _ _ _

theorem State.PortsKept.seatExpired (p : Pole) : v.PortsKept (s.seatExpired p) := by
  simp only [State.seatExpired]
  split
  · exact State.PortsKept.handOver (h.same (by simp)) _ _ _
  · exact h

theorem State.PortsKept.gapExpired : v.PortsKept s.gapExpired := by
  simp only [State.gapExpired]
  split
  · exact State.PortsKept.handOver (h.same (by simp)) _ _ _
  · exact h

theorem State.PortsKept.loweringExpired : v.PortsKept s.loweringExpired := by
  simp only [State.loweringExpired]
  split
  · exact State.PortsKept.handOver (h.same (by simp)) _ _ _
  · exact h

theorem State.PortsKept.windowExpired : v.PortsKept s.windowExpired := by
  simp only [State.windowExpired]
  split
  · exact h
  · split
    · exact h
    · split
      · exact h.same (by simp)
      · exact State.PortsKept.handleEvent (State.PortsKept.handLimits (h.same (by simp))) _

theorem State.PortsKept.testEssential (r : Record) : v.PortsKept (s.testEssential r) := by
  simp only [State.testEssential]
  split
  · split
    · exact h
    · exact State.PortsKept.handleEvent (h.same (by simp)) _
  · exact h.same (by simp)

theorem State.PortsKept.takePublication (r : Record) : v.PortsKept (s.takePublication r) := by
  simp only [State.takePublication]
  exact ((h.setAux _).testEssential r).setAux _

theorem State.PortsKept.expireFrame : v.PortsKept s.expireFrame := by
  have supervised (u : AllotmentUnit) (r : Record) (es : List Event) :
      v.PortsKept ((({ s with allot := u } : State).takePublication r).publish.handleEvents es) :=
    (State.PortsKept.takePublication (h.same (by simp)) r).publish.handleEvents es
  simp only [State.expireFrame]
  split
  · exact (supervised _ _ _).handleEvent _
  · exact supervised _ _ _

theorem State.PortsKept.auxEvent (i : Slot) (due : AuxRecord → Bool) (f : AuxRecord → Sequencer) :
    v.PortsKept (s.auxEvent i due f) := by
  simp only [State.auxEvent]
  split
  · split
    · exact h.setAux _
    · exact h
  · exact h

theorem State.PortsKept.stallExpired : v.PortsKept s.stallExpired := by
  simp only [State.stallExpired]
  split
  · exact h
  · split
    · exact h.same (by simp)
    · split
      · split
        · exact h.same (by simp)
        · exact State.PortsKept.handleEvent (h.same (by simp)) _
      · exact h.same (by simp)

theorem State.PortsKept.saveCompleted (agrees : Bool) : v.PortsKept (s.saveCompleted agrees) := by
  simp only [State.saveCompleted]
  split
  · exact h
  · exact State.PortsKept.notify (h.same (by simp)) _

/-! ## What keeps the ports: the items and the requests -/

theorem State.PortsKept.setWritten (p : PortId) (f : PortSettings → PortSettings) : v.PortsKept (s.setWritten p f) :=
  h.setPort p _ ⟨rfl, rfl, id, id⟩

theorem State.PortsKept.setEnable (m : MonitorId) (on : Bool) : v.PortsKept (s.setEnable m on) := by
  simp only [State.setEnable]
  split
  · exact h
  · exact State.PortsKept.handOver (h.same (by simp)) _ _ _

theorem State.PortsKept.setFilter (m : MonitorId) (f : MonitorSetting → MonitorSetting) :
    v.PortsKept (s.setFilter m f) := by
  simp only [State.setFilter]
  split
  · exact h
  · exact h.same (by simp)

theorem State.PortsKept.storeItem (x : Nat) (n : NumericItem) : v.PortsKept (n.store s x) := by
  cases n with
  | iFeedDefault | iRgmaxDefault => exact State.PortsKept.handDefaultLimits (h.same (by simp))
  | iBatMax => exact State.PortsKept.takeBatteryLimit (h.same (by simp)) _
  | _ => exact h.same rfl

theorem State.PortsKept.writeItem (x : Nat) (i : Item) : v.PortsKept (i.write s x).state := by
  cases i with
  | numeric n => exact h.storeItem _ n
  | enable m => exact storeNamed_keeps h _ _ (h.setEnable m)
  | filterMode m => exact storeNamed_keeps h _ _ fun _ => h.setFilter m _
  | decimation m => exact h.setFilter m fun c => { c with decimation := nearestDecimation x }
  | sweepPeriod | framePeriod => exact h.same rfl
  | boost | charge | autoRun => exact storeNamed_keeps h _ _ fun _ => h.same rfl
  | rate p | parity p | polarity p | duplex p | role p => exact storeNamed_keeps h _ _ fun _ => h.setWritten p _
  | readOnly => exact h

theorem State.PortsKept.startAux (i : Slot) (r : AuxRecord) : v.PortsKept (s.startAux i r).state := by
  cases state : r.state <;> simp only [State.startAux, state, State.ok_state]
  case idle => exact h.setAux _
  case cooldown =>
    split
    · exact h
    · dsimp only
      exact h.setAux _
  case shed =>
    split
    · exact h
    · split
      · exact h
      · dsimp only
        exact h.setAux _
  all_goals exact h

theorem State.PortsKept.stopAux (i : Slot) (r : AuxRecord) : v.PortsKept (s.stopAux i r).state := by
  cases state : r.state <;> simp only [State.stopAux, state, State.ok_state]
  case idle => exact h
  case cooldown | shed =>
    split
    · rw [State.ok_state]
      exact h.setAux _
    · exact h
  all_goals exact h.setAux _

theorem State.PortsKept.writeAux (i : Slot) (part : AuxConfig) (clamped : Bool) :
    v.PortsKept (s.writeAux i part clamped).state := by
  simp only [State.writeAux]
  split
  · dsimp only
    exact h.setAux _
  · split <;> dsimp only <;> exact h.setAux _

/-- What the owning block makes of a request changes no port but through its notices, a notice that POLL takes, and
counts that PORT_STATUS clears (R172, R177, R178). -/
theorem State.PortsKept.answerPoll (p : PortId) : v.PortsKept (answerPoll p s).state := by
  simp only [Machine.answerPoll]
  split
  · next queue =>
    refine h.setPort p _ ⟨rfl, rfl, id, fun nodup => ?_⟩
    rw [queue] at nodup
    exact (List.nodup_cons.1 nodup).2
  · exact h

theorem State.PortsKept.answerPortStatus (named clear : Byte) : v.PortsKept (answerPortStatus named clear s).state := by
  simp only [Machine.answerPortStatus]
  split
  · exact h
  · split
    · exact h
    · split
      · exact h.setPort _ _ ⟨rfl, rfl, id, id⟩
      · exact h

theorem State.PortsKept.answerSetItem (item value : Half) : v.PortsKept (answerSetItem item value s).state := by
  simp only [Machine.answerSetItem]
  split
  · exact h
  · split
    · exact h
    · split
      · exact h.writeItem _ _
      · exact h

theorem State.PortsKept.answerAuxStart (slot : Byte) : v.PortsKept (answerAuxStart slot s).state := by
  simp only [Machine.answerAuxStart]
  split
  · exact h.startAux _ _
  · exact h

theorem State.PortsKept.answerAuxStop (slot : Byte) : v.PortsKept (answerAuxStop slot s).state := by
  simp only [Machine.answerAuxStop]
  split
  · exact h.stopAux _ _
  · exact h

theorem State.PortsKept.answerAuxWrite (slot : Byte) (f : AuxFields) : v.PortsKept (answerAuxWrite slot f s).state := by
  simp only [Machine.answerAuxWrite]
  split
  · exact h
  · split
    · exact h
    · split
      · exact h
      · exact h.writeAux _ _ _

theorem State.PortsKept.answerAuxRemove (slot : Byte) : v.PortsKept (answerAuxRemove slot s).state := by
  simp only [Machine.answerAuxRemove]
  split
  · exact h
  · split
    · exact h
    · split
      · rw [State.ok_state]
        exact h.setAux _
      · exact h

theorem State.PortsKept.answerSectionWrite (l : List SectionFields) : v.PortsKept (answerSectionWrite l s).state := by
  simp only [Machine.answerSectionWrite]
  split
  · exact h
  · exact h.writeSections l

theorem State.PortsKept.answerSectionErase : v.PortsKept (answerSectionErase s).state := by
  simp only [Machine.answerSectionErase]
  split
  · exact h
  · split
    · exact State.PortsKept.handLimits (h.same (by simp))
    · exact h.same rfl

theorem State.PortsKept.answerSectionSet (id : Half) : v.PortsKept (answerSectionSet id s).state := by
  simp only [Machine.answerSectionSet]
  split
  · exact h
  · split
    · exact h.same rfl
    · exact State.PortsKept.handLimits (h.same (by simp))

theorem State.PortsKept.answerSectionAhead (id : Half) : v.PortsKept (answerSectionAhead id s).state := by
  simp only [Machine.answerSectionAhead]
  split
  · exact h
  · split
    · split
      · exact h
      · exact h.same (by simp)
    · exact h.same rfl

theorem State.PortsKept.answerRouteWrite (kind mask enable : Byte) :
    v.PortsKept (answerRouteWrite kind mask enable s).state := by
  simp only [Machine.answerRouteWrite]
  split
  · exact h
  · split
    · exact h
    · split
      · exact h.same (by simp)
      · exact h

theorem State.PortsKept.answerAckAlarm (p : PortId) (number : Half) :
    v.PortsKept (answerAckAlarm p number s).state := by
  rcases answerAckAlarm_state_eq p number s with ⟨same, -⟩ | changed
  · rw [same]; exact h
  · rw [changed]; exact h.changeAlarms _

theorem State.PortsKept.answerRaiseFault (number cls : Byte) : v.PortsKept (answerRaiseFault number cls s).state := by
  simp only [Machine.answerRaiseFault]
  split
  · exact h
  · split
    · exact h.handleEvent _
    · exact h

theorem State.PortsKept.answerMode (target : Byte) : v.PortsKept (answerMode target s).state := by
  simp only [Machine.answerMode]
  split
  · simp only [answerModeSetup]
    split
    · exact h
    · exact h.changeMode _ _
  · simp only [answerModeRun]
    split
    · exact h
    · exact h
    · split
      · exact h
      · split
        · exact h
        · split
          · exact h
          · exact h.changeMode _ _
  · exact h

theorem State.PortsKept.answerRaise : v.PortsKept (answerRaise s).state := by
  simp only [Machine.answerRaise]
  split
  · exact h.notify _
  · exact h

theorem State.PortsKept.answerBattery (value : Byte) : v.PortsKept (answerBattery value s).state := by
  simp only [Machine.answerBattery]
  split
  · exact h
  · split
    · exact h
    · split
      · exact h.same rfl
      · exact State.PortsKept.takeBatteryCut (h.same (by simp))

end

/-- The requests that only store what they carry, or answer, leave the ports as they are. -/
theorem answers_leave_ports (s : State) :
    (∀ m a, (answerDemand m a s).state.ports = s.ports) ∧ (∀ q, (answerSetHistoryPolicy q s).state.ports = s.ports) ∧
    (∀ k, (answerClearFault k s).state.ports = s.ports) ∧ (answerSave s).state.ports = s.ports ∧
    (answerReset s).state.ports = s.ports ∧ (∀ b, (answerTractionInhibit b s).state.ports = s.ports) := by
  refine ⟨fun m a => ?_, fun q => ?_, fun k => ?_, ?_, ?_, fun b => ?_⟩
  · simp only [answerDemand]; split <;> rfl
  · simp only [answerSetHistoryPolicy]; (repeat' split) <;> rfl
  · simp only [answerClearFault]; (repeat' split) <;> rfl
  · simp only [answerSave]; (repeat' split) <;> rfl
  · simp only [answerReset]
    split
    · rfl
    · exact s.abandonSave_ports
  · simp only [answerTractionInhibit]; (repeat' split) <;> rfl

section
variable {v s : State} (h : v.PortsKept s)
include h

/-! ## What keeps the ports: frames and bytes (R171, R172) -/

theorem State.PortsKept.enterReply (p : PortId) (r : Reply) : v.PortsKept (s.enterReply p r) :=
  h.setPort p _ ⟨rfl, rfl, fun _ => rfl, id⟩

theorem State.PortsKept.hunt (p : PortId) : v.PortsKept (s.hunt p) := h.setPort p _ ⟨rfl, rfl, id, id⟩

theorem State.PortsKept.countOverrun (p : PortId) : v.PortsKept (s.countOverrun p) := h.setPort p _ ⟨rfl, rfl, id, id⟩

theorem State.PortsKept.failFrame (p : PortId) (f : PortCounts → PortCounts) : v.PortsKept (s.failFrame p f) :=
  h.setPort p _ ⟨rfl, rfl, id, id⟩

theorem State.PortsKept.receiving (p : PortId) (length : Option Nat) (body : List Byte) :
    v.PortsKept (s.receiving p length body) :=
  h.setPort p _ ⟨rfl, rfl, id, id⟩

theorem State.PortsKept.takeRequest (p : PortId) (kind tag : Byte) (good : Bool) (take : State → Answer)
    (answered : v.PortsKept (take s).state) : v.PortsKept (s.takeRequest p kind tag good take) := by
  rcases s.takeRequest_cases p kind tag good take with ⟨_, e⟩ | ⟨_, _, e⟩ | ⟨_, _, _, e⟩ | ⟨_, _, _, e⟩ <;> rw [e]
  · exact h.countOverrun p
  · exact h.enterReply p _
  · exact h.enterReply p _
  · exact answered.enterReply p _

theorem State.PortsKept.answerFrame (p : PortId) (kind tag : Byte) (code : ReplyCode) :
    v.PortsKept (s.answerFrame p kind tag code) := by
  simp only [State.answerFrame]
  split
  · exact h.countOverrun p
  · exact h.enterReply p _

theorem State.PortsKept.takeCommand (i : Instr) : v.PortsKept (s.takeCommand i) := by
  obtain ⟨demand, policy, clears, save, reset, inhibit⟩ := answers_leave_ports s
  cases i with
  | readAllotment | readContact | readAlarms | readHistory | readFaults | readAux | readSection | readMeasure | readItem
  | check => exact h.takeRequest _ _ _ _ _ (by simpa using h)
  | clearHistory | clearFlags => exact h.takeRequest _ _ _ _ _ (h.same rfl)
  | portStatus => exact h.takeRequest _ _ _ _ _ (h.answerPortStatus _ _)
  | poll => exact h.takeRequest _ _ _ _ _ (h.answerPoll _)
  | demand => exact h.takeRequest _ _ _ _ _ (h.same (demand _ _))
  | auxStart => exact h.takeRequest _ _ _ _ _ (h.answerAuxStart _)
  | auxStop => exact h.takeRequest _ _ _ _ _ (h.answerAuxStop _)
  | setItem => exact h.takeRequest _ _ _ _ _ (h.answerSetItem _ _)
  | auxWrite => exact h.takeRequest _ _ _ _ _ (h.answerAuxWrite _ _)
  | auxRemove => exact h.takeRequest _ _ _ _ _ (h.answerAuxRemove _)
  | sectionWrite => exact h.takeRequest _ _ _ _ _ (h.answerSectionWrite _)
  | sectionErase => exact h.takeRequest _ _ _ _ _ h.answerSectionErase
  | sectionSet => exact h.takeRequest _ _ _ _ _ (h.answerSectionSet _)
  | sectionAhead => exact h.takeRequest _ _ _ _ _ (h.answerSectionAhead _)
  | routeWrite => exact h.takeRequest _ _ _ _ _ (h.answerRouteWrite _ _ _)
  | ackAlarm => exact h.takeRequest _ _ _ _ _ (h.answerAckAlarm _ _)
  | setHistoryPolicy => exact h.takeRequest _ _ _ _ _ (h.same (policy _))
  | clearFault => exact h.takeRequest _ _ _ _ _ (h.same (clears _))
  | raiseFault => exact h.takeRequest _ _ _ _ _ (h.answerRaiseFault _ _)
  | mode => exact h.takeRequest _ _ _ _ _ (h.answerMode _)
  | save => exact h.takeRequest _ _ _ _ _ (h.same save)
  | reset => exact h.takeRequest _ _ _ _ _ (h.same reset)
  | lower => exact h.takeRequest _ _ _ _ _ h.lowerPoles
  | raise => exact h.takeRequest _ _ _ _ _ h.answerRaise
  | battery => exact h.takeRequest _ _ _ _ _ (h.answerBattery _)
  | tractionInhibit => exact h.takeRequest _ _ _ _ _ (h.same (inhibit _))
  | _ => exact h

theorem State.PortsKept.takeBody (p : PortId) (body : List Byte) : v.PortsKept (s.takeBody p body) := by
  simp only [State.takeBody]
  split
  · exact h.answerFrame _ _ _ _
  · exact h.answerFrame _ _ _ _
  · exact h.takeCommand _

theorem State.PortsKept.takeByte (p : PortId) (b : Byte) (error : Bool) : v.PortsKept (s.takeByte p b error) := by
  simp only [State.takeByte]
  split
  · exact h
  · split
    · exact h.failFrame p _
    · split
      · split
        · exact h.receiving p _ _
        · exact h
      · split
        · exact h.receiving p _ _
        · exact h.failFrame p _
      · split
        · exact h.receiving p _ _
        · split
          · exact (h.hunt p).takeBody p _
          · exact h.failFrame p _

end

/-! ## The commands -/

/-- A complete frame keeps the ports where what it does to a part whose receiver hunts does (R171). -/
theorem State.actFrame_portsKept (s : State) (p : PortId) (f : State → State) (h : s.PortsKept (f (s.hunt p))) :
    ∃ g : State → State, s.actFrame p f = s.act g ∧ s.PortsKept (g s) := by
  refine ⟨_, rfl, ?_⟩
  split
  · exact .refl s
  · exact h

/-- Every command but the end of a transmission and the events of resets is taken with every port kept, and then the
transmitters choose (R176). -/
theorem exec_portsKept (i : Instr) (s : State) (other : i ∉ resetEvents) (sends : ∀ p, i ≠ .transmitComplete p) :
    ∃ f : State → State, exec i s = s.act f ∧ s.PortsKept (f s) := by
  have h : s.PortsKept s := .refl s
  cases hb : bodyOf i with
  | some x =>
    rw [exec_of_bodyOf i x hb]
    exact s.actFrame_portsKept x.1 _ ((h.hunt x.1).takeCommand i)
  | none =>
    unfold exec
    cases i with
    | sweepCompletion codes => exact ⟨_, rfl, by split <;> [exact h.sweep codes; exact h]⟩
    | seatTimerExpiry p => exact ⟨_, rfl, h.seatExpired p⟩
    | gapTimerExpiry => exact ⟨_, rfl, h.gapExpired⟩
    | loweringTimerExpiry => exact ⟨_, rfl, h.loweringExpired⟩
    | windowExpiry => exact ⟨_, rfl, h.windowExpired⟩
    | frameExpiry => exact ⟨_, rfl, by split <;> [exact h.expireFrame; exact h]⟩
    | recloseExpiry => exact ⟨_, rfl, by split <;> exact h.same (by simp)⟩
    | inrushExpiry | onTimerExpiry | runTimerExpiry | offInhibitExpiry => exact ⟨_, rfl, h.auxEvent _ _ _⟩
    | stallTimerExpiry => exact ⟨_, rfl, h.stallExpired⟩
    | saveCompletion agrees => exact ⟨_, rfl, h.saveCompleted agrees⟩
    | receiveGapTimeout p => exact ⟨_, rfl, by split <;> [exact h.failFrame p _; exact h]⟩
    | frameCheckFailed p failure =>
      exact s.actFrame_portsKept p (fun u => u.failFrame p (countFailure failure)) ((h.hunt p).failFrame p _)
    | unknownRequest p tag kind =>
      exact s.actFrame_portsKept p (fun u => u.answerFrame p kind tag .unknown) ((h.hunt p).answerFrame p _ _ _)
    | transmitComplete p => exact absurd rfl (sends p)
    | byteReceived p b error => exact ⟨_, rfl, h.takeByte p b error⟩
    | powerOn | supplyLow | retentionLost | supplyStableExpiry | pinResetAssert | pinResetRelease => simp at other
    | _ => cases hb

end Sys2Proof.Machine

namespace Sys2Proof.Machine

/-! ## The end of a transmission (R166, R173, R176) -/

section
variable {s : State} {p : PortId}

theorem State.transmitted_of_idle (idle : (s.ports[p]).tx = none) : s.transmitted p = s := by
  simp only [State.transmitted, idle]

theorem State.transmitted_of_notice {n : Notice} (sending : (s.ports[p]).tx = some (.notice n)) :
    s.transmitted p = s.setPort p { s.ports[p] with tx := none } := by
  simp only [State.transmitted, sending]

/-- A reply part with no reply in the slot leaves the transmitter idle; no port that keeps the law sends one. -/
theorem State.transmitted_of_empty {x : Sending} (sending : (s.ports[p]).tx = some x)
    (empty : (s.ports[p]).slot = none) : s.transmitted p = s.setPort p { s.ports[p] with tx := none } := by
  cases x <;> simp only [State.transmitted, sending, empty]

theorem State.transmitted_of_part {r : ReplySlot} (sending : (s.ports[p]).tx = some .replyPart)
    (held : (s.ports[p]).slot = some r) :
    s.transmitted p =
      if r.sent + 1 < r.parts then
        s.setPort p { s.ports[p] with tx := none, slot := some { r with sent := r.sent + 1 } }
      else if r.reply.startsReset then (s.setPort p { s.ports[p] with tx := none, slot := none }).linkReset
      else s.setPort p { s.ports[p] with tx := none, slot := none } := by
  simp only [State.transmitted, sending, held]

/-- The end of a transmission leaves its transmitter idle, with the slot as it is or moved on, or starts the part up, or
is of nothing that is being sent (R166, R173, R176). -/
theorem State.transmitted_cases (s : State) (p : PortId) :
    (∃ slot, s.transmitted p = s.setPort p { s.ports[p] with tx := none, slot := slot }) ∨
      (∃ u : State, s.transmitted p = u.startUp) ∨ s.transmitted p = s := by
  cases sending : (s.ports[p]).tx with
  | none => exact .inr (.inr (State.transmitted_of_idle sending))
  | some x =>
    cases x with
    | notice n => exact .inl ⟨_, State.transmitted_of_notice sending⟩
    | replyPart =>
      cases held : (s.ports[p]).slot with
      | none => exact .inl ⟨_, State.transmitted_of_empty sending held⟩
      | some r =>
        rw [State.transmitted_of_part sending held]
        split
        · exact .inl ⟨_, rfl⟩
        · split
          · exact .inr (.inl ⟨_, rfl⟩)
          · exact .inl ⟨_, rfl⟩

end

/-! ## The laws of the ports (R173, R175 to R177) -/

/-- A condition on each port that every command keeps: what keeps a port keeps it, a transmitter's choice and a
transmission's end do, and a port that sends nothing and where no notice waits has it. -/
structure PortInvariant (P : Port → Prop) : Prop where
  keeps : ∀ {a b : Port}, a.Keeps b → P a → P b
  begins : ∀ {a : Port}, P a → P a.beginWaiting
  ends : ∀ {a : Port}, P a → ∀ slot, P { a with tx := none, slot := slot }
  idle : ∀ {a : Port}, a.tx = none → a.queue = [] → P a

section
variable {P : Port → Prop} (inv : PortInvariant P)
include inv

theorem PortInvariant.of_kept {s t : State} (kept : s.PortsKept t) (h : ∀ p : PortId, P s.ports[p]) :
    ∀ p : PortId, P t.ports[p] :=
  fun p => inv.keeps (kept p) (h p)

theorem PortInvariant.beginWaiting {s : State} (h : ∀ p : PortId, P s.ports[p]) :
    ∀ p : PortId, P s.beginWaiting.ports[p] := fun p => by
  rw [Fin.getElem_fin, State.beginWaiting_port]
  exact inv.begins (h p)

/-- A reset leaves no port sending and no notice waiting (R165). -/
theorem PortInvariant.abandon (s : State) (p : PortId) : P s.abandon.ports[p] :=
  inv.idle (by simp [State.abandon, Port.abandon]) (by simp [State.abandon, Port.abandon])

/-- Start-up finds every port idle, and adds notices alone (R167). -/
theorem PortInvariant.startUp (s : State) : ∀ p : PortId, P s.startUp.ports[p] := by
  have loaded (p : PortId) : P s.load.ports[p] :=
    inv.idle (by simp [State.load, Port.afterReset]) (by simp [State.load, Port.afterReset])
  have reported : s.load.PortsKept s.load.reportImage := by
    simp only [State.reportImage]
    split
    · exact (State.PortsKept.refl _).handleEvent _
    · exact .refl _
  refine inv.of_kept (s := s.load) ?_ loaded
  simp only [State.startUp, State.enterFirstMode]
  exact (State.PortsKept.notify (reported.same (by simp)) _).notify _

theorem PortInvariant.endHold {s : State} (h : ∀ p : PortId, P s.ports[p]) : ∀ p : PortId, P s.endHold.ports[p] := by
  simp only [State.endHold]
  split
  · exact inv.beginWaiting (inv.startUp s)
  · exact h

omit inv in
theorem State.setPort_all {s : State} (h : ∀ p : PortId, P s.ports[p]) (p : PortId) {port : Port} (hp : P port) :
    ∀ q : PortId, P (s.setPort p port).ports[q] := fun q => by
  by_cases same : q = p
  · rw [same, Fin.getElem_fin, State.setPort_same]
    exact hp
  · rw [State.setPort_other s p q port same]
    exact h q

theorem PortInvariant.transmitted {s : State} (h : ∀ p : PortId, P s.ports[p]) (p : PortId) :
    ∀ q : PortId, P (s.transmitted p).ports[q] := by
  rcases s.transmitted_cases p with ⟨slot, e⟩ | ⟨u, e⟩ | e <;> rw [e]
  · exact State.setPort_all h p (inv.ends (h p) _)
  · exact inv.startUp u
  · exact h

theorem PortInvariant.act {s t : State} {f : State → State} (h : ∀ p : PortId, P s.ports[p])
    (hf : ∀ p : PortId, P (f s).ports[p]) (ht : s.act f = .next t) : ∀ p : PortId, P t.ports[p] := by
  simp only [State.act] at ht
  split at ht <;> cases ht
  · exact inv.beginWaiting hf
  · exact h

theorem PortInvariant.resetEvents {i : Instr} (reset : i ∈ resetEvents) {s t : State} (h : ∀ p : PortId, P s.ports[p])
    (ht : exec i s = .next t) : ∀ p : PortId, P t.ports[p] := by
  simp only [Machine.resetEvents, List.mem_cons, List.not_mem_nil, or_false] at reset
  rcases reset with rfl | rfl | rfl | rfl | rfl | rfl
  · cases ht; exact inv.abandon s
  · cases ht; exact inv.abandon s
  · cases ht; exact h
  · simp only [exec, execSupplyStableExpiry] at ht
    split at ht <;> cases ht
    · exact inv.endHold h
    · exact h
  · simp only [exec, execPinResetAssert] at ht
    split at ht <;> cases ht
    · exact h
    · exact inv.abandon s
  · simp only [exec, execPinResetRelease] at ht
    split at ht <;> cases ht
    · exact inv.endHold h
    · exact h

theorem PortInvariant.exec_keeps (i : Instr) {s t : State} (h : ∀ p : PortId, P s.ports[p]) (ht : exec i s = .next t) :
    ∀ p : PortId, P t.ports[p] := by
  by_cases reset : i ∈ Machine.resetEvents
  · exact inv.resetEvents reset h ht
  · by_cases sends : ∃ p, i = .transmitComplete p
    · obtain ⟨p, rfl⟩ := sends
      exact inv.act (f := fun s => s.transmitted p) h (inv.transmitted h p) ht
    · obtain ⟨f, taken, kept⟩ := exec_portsKept i s reset fun p same => sends ⟨p, same⟩
      exact inv.act h (inv.of_kept kept h) (taken.symm.trans ht)

/-- A condition on each port that every command keeps is kept by every step: the passing of a millisecond moves gap
timers alone (R171). -/
theorem PortInvariant.step_keeps {s t : State} (h : ∀ p : PortId, P s.ports[p]) (ht : step s = .next t) :
    ∀ p : PortId, P t.ports[p] := by
  cases queue : s.pending with
  | nil =>
    simp only [step, queue] at ht
    cases ht
    exact inv.of_kept (s := s) (fun p => by simpa [State.tick] using ⟨rfl, rfl, id, id⟩) h
  | cons i rest =>
    simp only [step, queue] at ht
    exact inv.exec_keeps i (s := { s with pending := rest }) h ht

end

/-- At most one notice of each kind waits at a port (R175). -/
theorem noticesInvariant : PortInvariant fun port => (port.queue.map Notice.kind).Nodup where
  keeps kept h := kept.kinds h
  begins {a} h := by
    rcases a.beginWaiting_cases with e | ⟨_, _, e⟩ | ⟨n, rest, _, _, _, queue, e⟩ <;> rw [e]
    · exact h
    · exact h
    · rw [queue] at h
      exact (List.nodup_cons.1 h).2
  ends h _ := h
  idle _ empty := by simp [empty]

/-- A HALF-duplex port sends replies alone, and the reply whose part is sent is in the slot (R173, R177). -/
theorem sendingInvariant : PortInvariant fun port =>
    (port.inForce.duplex = .half → port.tx = none ∨ port.tx = some .replyPart) ∧
      (port.tx = some .replyPart → port.slot.isSome = true) where
  keeps kept h := by
    rw [kept.inForce, kept.tx]
    exact ⟨h.1, fun sends => kept.slot (h.2 sends)⟩
  begins {a} h := by
    rcases a.beginWaiting_cases with e | ⟨_, held, e⟩ | ⟨n, rest, _, _, full, _, e⟩ <;> rw [e]
    · exact h
    · exact ⟨fun _ => .inr rfl, fun _ => held⟩
    · exact ⟨fun half => by simp [full] at half, fun sends => by simp at sends⟩
  ends _ _ := ⟨fun _ => .inl rfl, fun sends => by simp at sends⟩
  idle idle _ := ⟨fun _ => .inl idle, fun sends => by simp [idle] at sends⟩

/-! ## The transmitters' law (R176, R177) -/

section
variable {port : Port}

theorem Port.beginWaiting_of_busy (busy : port.tx.isSome = true) : port.beginWaiting = port := by
  obtain ⟨x, sending⟩ := Option.isSome_iff_exists.1 busy
  simp only [Port.beginWaiting, sending]

theorem Port.beginWaiting_of_reply (idle : port.tx = none) (held : port.slot.isSome = true) :
    port.beginWaiting = { port with tx := some .replyPart } := by
  obtain ⟨r, slot⟩ := Option.isSome_iff_exists.1 held
  simp only [Port.beginWaiting, idle, slot]

theorem Port.beginWaiting_of_notice {n : Notice} {rest : List Notice} (idle : port.tx = none) (free : port.slot = none)
    (full : port.inForce.duplex = .full) (queue : port.queue = n :: rest) :
    port.beginWaiting = { port with tx := some (.notice n), queue := rest } := by
  simp only [Port.beginWaiting, idle, free, full, queue]

theorem Port.beginWaiting_of_nothing (idle : port.tx = none) (free : port.slot = none)
    (nothing : port.inForce.duplex = .half ∨ port.queue = []) : port.beginWaiting = port := by
  rcases nothing with half | empty
  · simp only [Port.beginWaiting, idle, free, half]
  · cases duplex : port.inForce.duplex <;> simp only [Port.beginWaiting, idle, free, empty, duplex]

/-- A transmitter that has chosen is idle only with nothing that it could begin (R176, R177). -/
theorem Port.beginWaiting_settled (port : Port) (idle : port.beginWaiting.tx = none) :
    port.beginWaiting.slot = none ∧ (port.beginWaiting.inForce.duplex = .full → port.beginWaiting.queue = []) := by
  cases sending : port.tx with
  | some x =>
    rw [Port.beginWaiting_of_busy (by simp [sending]), sending] at idle
    cases idle
  | none =>
    cases held : port.slot with
    | some r =>
      rw [Port.beginWaiting_of_reply sending (by simp [held])] at idle
      cases idle
    | none =>
      by_cases nothing : port.inForce.duplex = .half ∨ port.queue = []
      · rw [Port.beginWaiting_of_nothing sending held nothing]
        exact ⟨held, fun full => nothing.resolve_left (by simp [full])⟩
      · obtain ⟨full, waits⟩ := not_or.1 nothing
        obtain ⟨n, rest, queue⟩ := List.exists_cons_of_ne_nil waits
        rw [Port.beginWaiting_of_notice sending held (by cases duplex : port.inForce.duplex <;> simp_all) queue] at idle
        cases idle

end

theorem State.beginWaiting_settledLaw (s : State) : s.beginWaiting.SettledLaw := fun p => by
  simp only [Fin.getElem_fin, State.beginWaiting_port]
  exact Port.beginWaiting_settled _

theorem State.abandon_settledLaw (s : State) (w : Power) : ({ s.abandon with power := w } : State).SettledLaw :=
  fun p _ => by simp [State.abandon, Port.abandon]

theorem State.endHold_settledLaw {s : State} (h : s.SettledLaw) : s.endHold.SettledLaw := by
  simp only [State.endHold]
  split
  · exact State.beginWaiting_settledLaw _
  · exact h

/-- Every command ends in the transmitters' choice, leaves the ports as they are or abandons what they do (R165,
R176). -/
theorem exec_keeps_settledLaw (i : Instr) {s t : State} (h : s.SettledLaw) (ht : exec i s = .next t) :
    t.SettledLaw := by
  by_cases reset : i ∈ resetEvents
  · simp only [resetEvents, List.mem_cons, List.not_mem_nil, or_false] at reset
    rcases reset with rfl | rfl | rfl | rfl | rfl | rfl
    · cases ht; exact s.abandon_settledLaw _
    · cases ht; exact s.abandon_settledLaw _
    · cases ht; exact h
    · simp only [exec, execSupplyStableExpiry] at ht
      split at ht <;> cases ht
      · exact State.endHold_settledLaw h
      · exact h
    · simp only [exec, execPinResetAssert] at ht
      split at ht <;> cases ht
      · exact h
      · exact s.abandon_settledLaw _
    · simp only [exec, execPinResetRelease] at ht
      split at ht <;> cases ht
      · exact State.endHold_settledLaw h
      · exact h
  · obtain ⟨f, taken, -⟩ := exec_eq_act i s reset
    rw [taken, State.act_next] at ht
    cases ht
    split
    · exact State.beginWaiting_settledLaw _
    · exact h

theorem step_keeps_settledLaw {s t : State} (h : s.SettledLaw) (ht : step s = .next t) : t.SettledLaw := by
  cases queue : s.pending with
  | nil =>
    simp only [step, queue] at ht
    cases ht
    intro p
    simpa [State.tick] using h p
  | cons i rest =>
    simp only [step, queue] at ht
    exact exec_keeps_settledLaw i (s := { s with pending := rest }) h ht

/-- Settles O16: the first and the third law are conditions on each port that every command keeps, and the second holds
once the transmitters have chosen. -/
theorem portLawsAreKept : Obligations.PortLawsAreKept :=
  ⟨fun _ _ => noticesInvariant.step_keeps, fun _ _ => step_keeps_settledLaw, fun _ _ => sendingInvariant.step_keeps⟩

end Sys2Proof.Machine

namespace Sys2Proof

/-! ## Requests as bodies of frames (R171, R181) -/

/-- A two-byte field is read back from its bytes (R181). -/
theorem halfOf_halfBytes (x : Half) : halfOf (x.extractLsb' 0 8) (x.extractLsb' 8 8) = x := by
  rw [halfOf]
  exact BitVec.extractLsb'_append_extractLsb'_eq_extractLsb' (by decide) |>.trans (by simp)

/-- The entries of a SECTION_WRITE are read back from their bytes, nine each (R181). -/
theorem sectionEntriesOf_bytes (es : List SectionFields) :
    sectionEntriesOf (es.flatMap SectionFields.bytes) = some es ∧
      (es.flatMap SectionFields.bytes).length = 9 * es.length := by
  induction es with
  | nil => exact ⟨rfl, rfl⟩
  | cons e es ih =>
    obtain ⟨read, length⟩ := ih
    refine ⟨?_, ?_⟩
    · simp [SectionFields.bytes, halfBytes, sectionEntriesOf, read, halfOf_halfBytes]
    · simp [SectionFields.bytes, halfBytes, length]; omega

/-- A request's body is its kind byte, its tag and a payload that names the request again (R181). -/
theorem requestOf_bodyOf (i : Instr) (p : PortId) (body : List Byte) (good : i.wellFormed = true)
    (hb : bodyOf i = some (p, body)) :
    ∃ kind tag payload, body = kind :: tag :: payload ∧ kindUnnamed kind = false ∧
      requestOf p tag kind.toNat payload = some i ∧ payload.length ≤ 58 := by
  cases i with
  | readItem | setItem | sectionSet | sectionAhead | ackAlarm =>
    cases hb
    exact ⟨_, _, _, rfl, rfl, by simp [requestOf, payloadHalf, halfBytes, halfOf_halfBytes], by simp [halfBytes]⟩
  | demand =>
    cases hb
    exact ⟨_, _, _, rfl, rfl, by simp [requestOf, halfBytes, halfOf_halfBytes], by simp [halfBytes]⟩
  | auxWrite p t slot part =>
    cases hb
    exact ⟨_, _, _, rfl, rfl, by simp [requestOf, payloadAux, AuxFields.bytes, halfBytes, halfOf_halfBytes],
      by simp [AuxFields.bytes, halfBytes]⟩
  | sectionWrite p t es =>
    cases hb
    obtain ⟨read, length⟩ := sectionEntriesOf_bytes es
    have count : entryCountGood es = true := good
    refine ⟨_, _, _, rfl, rfl, by simp [requestOf, payloadSections, read, count], ?_⟩
    show (es.flatMap SectionFields.bytes).length ≤ 58
    simp only [entryCountGood, Bool.and_eq_true, decide_eq_true_eq] at count
    omega
  | _ =>
    cases hb
    all_goals exact ⟨_, _, _, rfl, rfl, rfl, by simp⟩

/-- A body whose kind names a request and whose payload is one of that kind is read as that request (R172, R181). -/
theorem readBody_of_request {p : PortId} {kind tag : Byte} {payload : List Byte} {i : Instr}
    (named : kindUnnamed kind = false) (read : requestOf p tag kind.toNat payload = some i) :
    readBody p (kind :: tag :: payload) = .request i := by
  simp [readBody, named, read]

/-- Settles O10: a request's payload gives the request again, kind by kind. -/
theorem encodedRequestIsReadBack : Obligations.EncodedRequestIsReadBack := by
  intro i p body good hb
  obtain ⟨kind, tag, payload, rfl, named, read, length⟩ := requestOf_bodyOf i p body good hb
  exact ⟨readBody_of_request named read, by simp, by simp; omega⟩

/-! ## The port a request names (R181) -/

section
variable {i j : Instr} {p : PortId} {payload : List Byte}

/-- A request of a port: one that the frames of that port carry. -/
def Instr.OfPort (i : Instr) (p : PortId) : Prop := ∃ body, bodyOf i = some (p, body)

theorem payload0_ofPort (h : i.OfPort p) (read : payload0 i payload = some j) : j.OfPort p := by
  unfold payload0 at read
  split at read <;> cases read
  exact h

theorem payload1_ofPort {f : Byte → Instr} (h : ∀ a, (f a).OfPort p) (read : payload1 f payload = some j) :
    j.OfPort p := by
  unfold payload1 at read
  split at read <;> cases read
  exact h _

theorem payload2_ofPort {f : Byte → Byte → Instr} (h : ∀ a b, (f a b).OfPort p)
    (read : payload2 f payload = some j) : j.OfPort p := by
  unfold payload2 at read
  split at read <;> cases read
  exact h _ _

theorem payloadHalf_ofPort {f : Half → Instr} (h : ∀ x, (f x).OfPort p) (read : payloadHalf f payload = some j) :
    j.OfPort p := by
  unfold payloadHalf at read
  split at read <;> cases read
  exact h _

theorem payloadSections_ofPort {f : List SectionFields → Instr} (h : ∀ es, (f es).OfPort p)
    (read : payloadSections f payload = some j) : j.OfPort p := by
  unfold payloadSections at read
  split at read
  · split at read <;> cases read
    exact h _
  · cases read

theorem payloadAux_ofPort {f : Byte → AuxFields → Instr} (h : ∀ a x, (f a x).OfPort p)
    (read : payloadAux f payload = some j) : j.OfPort p := by
  unfold payloadAux at read
  split at read <;> cases read
  exact h _ _

/-- The request that a body carries names the port at which the body came (R181). -/
theorem requestOf_ofPort {tag : Byte} {kind : Nat} (read : requestOf p tag kind payload = some i) : i.OfPort p := by
  unfold requestOf at read
  split at read
  case h_1 | h_2 | h_8 | h_11 | h_19 | h_24 | h_28 | h_31 | h_32 | h_33 | h_34 => exact payload0_ofPort ⟨_, rfl⟩ read
  case h_3 | h_4 | h_5 | h_6 | h_7 | h_13 | h_14 | h_17 | h_25 | h_26 | h_29 | h_30 | h_35 | h_36 =>
    exact payload1_ofPort (fun _ => ⟨_, rfl⟩) read
  case h_10 | h_27 => exact payload2_ofPort (fun _ _ => ⟨_, rfl⟩) read
  case h_9 | h_20 | h_21 | h_23 => exact payloadHalf_ofPort (fun _ => ⟨_, rfl⟩) read
  case h_16 => exact payloadAux_ofPort (fun _ _ => ⟨_, rfl⟩) read
  case h_18 => exact payloadSections_ofPort (fun _ => ⟨_, rfl⟩) read
  case h_12 | h_15 | h_22 =>
    split at read <;> cases read
    exact ⟨_, rfl⟩
  case h_37 => cases read

end

theorem readBody_ofPort {p : PortId} {body : List Byte} {i : Instr} (read : readBody p body = .request i) :
    i.OfPort p := by
  unfold readBody at read
  split at read
  · split at read
    · cases read
    · split at read <;> cases read
      next named => exact requestOf_ofPort named
  · cases read
  · cases read

end Sys2Proof

namespace Sys2Proof.Machine

/-! ## One port changed twice -/

@[simp] theorem State.setPort_setPort (s : State) (p : PortId) (a b : Port) :
    (s.setPort p a).setPort p b = s.setPort p b := by
  simp [State.setPort]

/-- What a frame that fails, or a frame that goes on, makes of a port is the same whatever its receiver was doing. -/
theorem State.failFrame_hunt (s : State) (p : PortId) (f : PortCounts → PortCounts) :
    (s.hunt p).failFrame p f = s.failFrame p f := by
  simp [State.failFrame, State.hunt]

/-! ## A byte at a receiver (R171) -/

section
variable {s : State} {p : PortId} {b : Byte}

theorem exec_byteReceived_of_up (error : Bool) (up : s.up = true) :
    exec (.byteReceived p b error) s = .next (s.takeByte p b error).beginWaiting :=
  s.act_of_up (fun s => s.takeByte p b error) up

theorem State.takeByte_of_deaf (error : Bool) (deaf : (s.ports[p]).deaf = true) : s.takeByte p b error = s := by
  simp only [State.takeByte, deaf, if_true]

variable (hears : (s.ports[p]).deaf = false)
include hears

theorem State.takeByte_of_error : s.takeByte p b true = s.failFrame p PortCounts.lineError := by
  simp only [State.takeByte, hears, Bool.false_eq_true, if_false, if_true]

theorem State.takeByte_of_hunting (hunting : (s.ports[p]).receiver = .hunting) :
    s.takeByte p b false = if b = 0xA5 then s.receiving p none [] else s := by
  simp only [State.takeByte, hears, hunting, Bool.false_eq_true, if_false]

theorem State.takeByte_of_length {body : List Byte} {gap : Nat}
    (length : (s.ports[p]).receiver = .inFrame none body gap) :
    s.takeByte p b false =
      if 2 ≤ b.toNat ∧ b.toNat ≤ 60 then s.receiving p (some b.toNat) [] else s.failFrame p PortCounts.checkError := by
  simp only [State.takeByte, hears, length, Bool.false_eq_true, if_false, inRange, Bool.and_eq_true, decide_eq_true_eq]

theorem State.takeByte_of_body {n : Nat} {body : List Byte} {gap : Nat}
    (frame : (s.ports[p]).receiver = .inFrame (some n) body gap) (more : body.length < n) :
    s.takeByte p b false = s.receiving p (some n) (body ++ [b]) := by
  simp only [State.takeByte, hears, frame, more, Bool.false_eq_true, if_false, if_true]

/-- The byte after a frame's body is its check byte: the frame is complete where it agrees, and fails where
not (R171). -/
theorem State.takeByte_of_check {n : Nat} {body : List Byte} {gap : Nat}
    (frame : (s.ports[p]).receiver = .inFrame (some n) body gap) (full : n ≤ body.length) :
    s.takeByte p b false =
      if b = checkByte body then (s.hunt p).takeBody p body else s.failFrame p PortCounts.checkError := by
  simp only [State.takeByte, hears, frame, Nat.not_lt.2 full, Bool.false_eq_true, if_false]

end

/-- A frame that fails at a port that hears it is counted and not answered (R171). -/
theorem exec_frameCheckFailed_of_heard {s : State} {p : PortId} {failure : FrameFailure} (up : s.up = true)
    (hears : (s.ports[p]).deaf = false) :
    exec (.frameCheckFailed p failure) s = .next (s.failFrame p (countFailure failure)).beginWaiting := by
  rw [exec, execFrameCheckFailed, State.actFrame_of_heard _ _ _ up hears, State.failFrame_hunt]

/-- Settles O12: a byte is taken by the state of its receiver, and an expiry or a failed frame changes one count. -/
theorem receiverTakesEachByte : Obligations.ReceiverTakesEachByte := by
  refine ⟨fun p b error s up => ?_, fun p s up => ?_⟩
  · intro port goOn fail checkError
    rw [exec_byteReceived_of_up error up]
    refine ⟨fun deaf => by rw [State.takeByte_of_deaf error deaf], fun hears => ⟨?_, ?_⟩⟩
    · rintro rfl
      rw [State.takeByte_of_error hears]
      rfl
    · rintro rfl
      refine ⟨fun hunting => ?_, fun body gap length => ?_, fun n body gap frame more => ?_,
        fun n body gap frame full wrong => ?_⟩
      · rw [State.takeByte_of_hunting hears hunting]
        split
        · rfl
        · rfl
      · rw [State.takeByte_of_length hears length]
        split
        · rfl
        · rfl
      · rw [State.takeByte_of_body hears frame more]
        rfl
      · rw [State.takeByte_of_check hears frame full, if_neg (show b ≠ checkByte body from wrong)]
        rfl
  · intro port fail
    refine ⟨fun hunting => ?_, fun n body gap frame => ?_, fun hears => ⟨?_, fun failure other => ?_⟩⟩
    · rw [exec, execReceiveGapTimeout, State.act_of_up _ _ up]
      simp only [port] at hunting
      simp only [hunting]
    · rw [exec, execReceiveGapTimeout, State.act_of_up _ _ up]
      simp only [port] at frame
      simp only [frame]
      rfl
    · rw [exec_frameCheckFailed_of_heard up hears]
      rfl
    · rw [exec_frameCheckFailed_of_heard up hears]
      cases failure with
      | byteError => exact absurd rfl other
      | badLength | badCheck => rfl

end Sys2Proof.Machine

namespace Sys2Proof.Machine

/-! ## A frame received byte by byte (R171) -/

/-- Where the transmitters' law holds a choice changes nothing (R176). -/
theorem Port.beginWaiting_of_settled {port : Port}
    (settled : port.tx = none → port.slot = none ∧ (port.inForce.duplex = .full → port.queue = [])) :
    port.beginWaiting = port := by
  cases sending : port.tx with
  | some x => exact Port.beginWaiting_of_busy (by simp [sending])
  | none =>
    obtain ⟨free, empty⟩ := settled sending
    refine Port.beginWaiting_of_nothing sending free ?_
    cases duplex : port.inForce.duplex with
    | half => exact .inl rfl
    | full => exact .inr (empty duplex)

theorem State.beginWaiting_of_settled {s : State} (settled : s.SettledLaw) : s.beginWaiting = s :=
  State.ports_ext _ _ rfl rfl rfl rfl rfl rfl rfl rfl rfl rfl fun p => by
    rw [Fin.getElem_fin, State.beginWaiting_port]
    exact Port.beginWaiting_of_settled (settled p)

section
variable {s : State} {p : PortId}

/-- A receiver that goes on with a frame changes nothing of what its port sends or hears. -/
theorem State.receiving_hears (length : Option Nat) (body : List Byte) (up : s.up = true) (settled : s.SettledLaw)
    (hears : (s.ports[p]).deaf = false) :
    (s.receiving p length body).up = true ∧ (s.receiving p length body).SettledLaw ∧
      ((s.receiving p length body).ports[p]).deaf = false ∧
      ((s.receiving p length body).ports[p]).receiver = .inFrame length body 2 := by
  refine ⟨up, ?_, ?_, ?_⟩
  · exact State.setPort_all (P := fun port => port.tx = none →
      port.slot = none ∧ (port.inForce.duplex = .full → port.queue = [])) settled p (settled p)
  · simpa [State.receiving, Port.deaf] using hears
  · simp [State.receiving, receiveGap]

theorem State.receiving_receiving (l m : Option Nat) (a b : List Byte) :
    (s.receiving p l a).receiving p m b = s.receiving p m b := by
  simp [State.receiving]

theorem State.hunt_receiving (l : Option Nat) (a : List Byte) : (s.receiving p l a).hunt p = s.hunt p := by
  simp [State.receiving, State.hunt]

theorem receive_cons {b : Byte} {rest : List Byte} (up : s.up = true) :
    receive p (b :: rest) s = receive p rest (s.takeByte p b false).beginWaiting := by
  rw [receive, exec_byteReceived_of_up false up]

variable (up : s.up = true) (settled : s.SettledLaw) (hears : (s.ports[p]).deaf = false)
include up settled hears

/-- A byte that a receiver goes on with leaves the transmitters as they have chosen. -/
theorem receive_goesOn {b : Byte} {rest body : List Byte} {length : Option Nat}
    (taken : s.takeByte p b false = s.receiving p length body) :
    receive p (b :: rest) s = receive p rest (s.receiving p length body) := by
  rw [receive_cons up, taken, State.beginWaiting_of_settled (State.receiving_hears _ _ up settled hears).2.1]

/-- The bytes of a body, one after another, up to its check byte. -/
theorem receive_body (n : Nat) (todo rest : List Byte) (done : List Byte) (room : done.length + todo.length ≤ n) :
    receive p (todo ++ rest) (s.receiving p (some n) done) =
      receive p rest (s.receiving p (some n) (done ++ todo)) := by
  induction todo generalizing done with
  | nil => simp
  | cons b todo ih =>
    rw [List.length_cons] at room
    obtain ⟨up', settled', hears', frame⟩ := State.receiving_hears (some n) done up settled hears
    have taken := State.takeByte_of_body (b := b) hears' frame (by omega)
    rw [List.cons_append, receive_goesOn up' settled' hears' taken, State.receiving_receiving, ih (done ++ [b]) (by
      rw [List.length_append, List.length_singleton]; omega)]
    simp

/-- The bytes of a frame, at a receiver that hunts, come to the taking of its body (R171). -/
theorem receive_frameOf {body : List Byte} (least : 2 ≤ body.length) (most : body.length ≤ 60)
    (hunting : (s.ports[p]).receiver = .hunting) :
    receive p (frameOf body) s = .next ((s.hunt p).takeBody p body).beginWaiting := by
  have length : (BitVec.ofNat 8 body.length).toNat = body.length := by
    rw [BitVec.toNat_ofNat]
    omega
  obtain ⟨up₁, settled₁, hears₁, frame₁⟩ := State.receiving_hears none [] up settled hears
  obtain ⟨up₂, -, hears₂, frame₂⟩ := State.receiving_hears (some body.length) body up settled hears
  have sync : s.takeByte p 0xA5 false = s.receiving p none [] := by
    rw [State.takeByte_of_hunting hears hunting, if_pos rfl]
  have counted : (s.receiving p none []).takeByte p (BitVec.ofNat 8 body.length) false =
      (s.receiving p none []).receiving p (some body.length) [] := by
    rw [State.takeByte_of_length hears₁ frame₁, length, if_pos ⟨least, most⟩]
  have agrees : (s.receiving p (some body.length) body).takeByte p (checkByte body) false =
      (s.hunt p).takeBody p body := by
    rw [State.takeByte_of_check hears₂ frame₂ le_rfl, if_pos rfl, State.hunt_receiving]
  rw [frameOf, receive_goesOn up settled hears sync, receive_goesOn up₁ settled₁ hears₁ counted,
    State.receiving_receiving, receive_body up settled hears _ _ _ _ (by simp), List.nil_append, receive_cons up₂,
    agrees]
  rfl

end

/-- Settles O11: the receiver comes to the taking of the body, and a body that spells a request is taken by the line
that the request itself is. -/
theorem receivedFrameIsTakenWhole : Obligations.ReceivedFrameIsTakenWhole := by
  intro p body s least most up settled hunting hears
  rw [receive_frameOf up settled hears least most hunting]
  cases read : readBody p body with
  | request i =>
    obtain ⟨bytes, ofPort⟩ := readBody_ofPort read
    simp only [State.takeBody, read]
    rw [exec_of_bodyOf i _ ofPort, State.actFrame_of_heard _ _ _ up hears]
  | unknown kind tag =>
    simp only [State.takeBody, read]
    exact (State.actFrame_of_heard s p (fun u => u.answerFrame p kind tag .unknown) up hears).symm
  | badLength kind tag =>
    simp only [State.takeBody, read, State.answerFrame, Fin.getElem_fin, State.hunt_port]
    cases held : (s.ports[p.val]).slot with
    | none => rfl
    | some r => rfl

end Sys2Proof.Machine

namespace Sys2Proof.Machine

/-! ## A complete frame by the lines of R172 -/

/-- A request's line of `takeCommand` takes the kind byte and the tag that its body opens with, and finds its length
good where the command is one that a frame can carry (R172, R181). -/
theorem takeCommand_of_bodyOf {i : Instr} {p : PortId} {kind tag : Byte} {payload : List Byte}
    (hb : bodyOf i = some (p, kind :: tag :: payload)) :
    ∃ (good : Bool) (take : State → Answer), (∀ u : State, u.takeCommand i = u.takeRequest p kind tag good take) ∧
      (i.wellFormed = true → good = true) := by
  cases i with
  | sectionWrite =>
    cases hb
    exact ⟨_, _, fun _ => rfl, id⟩
  | _ =>
    cases hb
    all_goals exact ⟨_, _, fun _ => rfl, fun _ => rfl⟩

section
variable {s : State} {p : PortId}

theorem State.hunt_slot : ((s.hunt p).ports[p]).slot = (s.ports[p]).slot := by
  rw [Fin.getElem_fin, State.hunt_port]; rfl

/-- A frame that names no request or has a bad length, at a port with room for its answer (R172). -/
theorem State.answerFrame_of_free (kind tag : Byte) (code : ReplyCode) (free : (s.ports[p]).slot = none) :
    (s.answerFrame p kind tag code).beginWaiting = s.answered p kind tag code := by
  simp only [State.answerFrame, free]
  rfl

theorem State.answerFrame_of_occupied (kind tag : Byte) (code : ReplyCode)
    (occupied : (s.ports[p]).slot.isSome = true) : s.answerFrame p kind tag code = s.countOverrun p := if_pos occupied

theorem State.takeRequest_of_occupied (kind tag : Byte) (good : Bool) (take : State → Answer)
    (occupied : (s.ports[p]).slot.isSome = true) : s.takeRequest p kind tag good take = s.countOverrun p :=
  if_pos occupied

/-- A request whose length does not match its kind is answered FORMAT (R172). -/
theorem State.takeRequest_of_badLength (kind tag : Byte) (take : State → Answer) (free : (s.ports[p]).slot = none) :
    (s.takeRequest p kind tag false take).beginWaiting = s.answered p kind tag .format := by
  simp only [State.takeRequest, free]
  rfl

/-- A request heard at a port whose role does not permit it, its length good, is answered ROLE_REFUSED (R172). -/
theorem State.takeRequest_of_refused (kind tag : Byte) (take : State → Answer) (free : (s.ports[p]).slot = none)
    (refused : (s.role p).permits kind = false) :
    (s.takeRequest p kind tag true take).beginWaiting = s.answered p kind tag .roleRefused := by
  simp only [State.takeRequest, free, refused]
  rfl

end

/-- What a role may ask: every one the reads and POLL, TRACTION its demand, AUXILIARY its starts and stops, and CAB all
the rest (R172). -/
theorem Role.permits_iff (role : Role) (kind : Byte) : role.permits kind = true ↔
    kind.toNat ≤ 0x0B ∨ (role = .traction ∧ kind = 0x10) ∨ (role = .auxiliary ∧ (kind = 0x18 ∨ kind = 0x19)) ∨
      (role = .cab ∧ kind ≠ 0x10 ∧ kind ≠ 0x18 ∧ kind ≠ 0x19 ∧ 0x0B < kind.toNat) := by
  have named (n : Byte) : kind = n ↔ kind.toNat = n.toNat := BitVec.toNat_inj.symm
  simp only [Role.permits, named, ne_eq]
  simp only [BitVec.reduceToNat]
  split
  · next all => simp [all]
  · next above =>
    split
    · next demand => cases role <;> simp [demand]
    · next other =>
      split
      · next start => rcases start with e | e <;> cases role <;> simp [e]
      · next rest => cases role <;> simp <;> omega

/-- Settles O13: each line of R172 is one branch of the taking of a frame whose port hears it. -/
theorem framesAreTakenInOrder : Obligations.FramesAreTakenInOrder := by
  refine ⟨fun i p kind tag payload s hb up hears => ?_, fun p tag kind s up hears occupied => ?_,
    fun p tag kind s hears _ => ?_, fun p tag es s hears bad => ?_, fun role kind _ => role.permits_iff kind⟩
  · intro h
    obtain ⟨good, take, line, checked⟩ := takeCommand_of_bodyOf hb
    rw [exec_of_bodyOf i _ hb, State.actFrame_of_heard _ _ _ up hears, line]
    refine ⟨fun occupied => ?_, fun free wellFormed refused => ?_⟩
    · rw [State.takeRequest_of_occupied _ _ _ _ (by rw [State.hunt_slot]; exact occupied)]
      rfl
    · rw [checked wellFormed, State.takeRequest_of_refused _ _ _ (State.hunt_slot.trans free) (by
        rw [State.hunt_role]; exact refused)]
  · intro h
    rw [exec, execUnknownRequest, State.actFrame_of_heard _ _ _ up hears,
      State.answerFrame_of_occupied _ _ _ (by rw [State.hunt_slot]; exact occupied)]
    rfl
  · obtain ⟨up, hears, free⟩ := hears
    rw [exec, execUnknownRequest, State.actFrame_of_heard _ _ _ up hears,
      State.answerFrame_of_free _ _ _ (State.hunt_slot.trans free)]
  · obtain ⟨up, hears, free⟩ := hears
    have long : entryCountGood es = false := by
      rcases bad with rfl | bad
      · rfl
      · simp [entryCountGood, bad]
    rw [exec, execSectionWrite, State.actFrame_of_heard _ _ _ up hears, long,
      State.takeRequest_of_badLength _ _ _ (State.hunt_slot.trans free)]

end Sys2Proof.Machine

namespace Sys2Proof.Machine

/-! ## The requests of every role (R172) -/

/-- A read, or POLL, reaches its block from a port of any role. -/
theorem State.actRequest_of_any {s : State} {p : PortId} (h : s.Hears p) (kind tag : Byte) (take : State → Answer)
    (read : kind.toNat ≤ 0x0B) : s.actRequest p kind tag take =
      .next ((take (s.hunt p)).state.answered p kind tag (take (s.hunt p)).code (take (s.hunt p)).content) :=
  s.actRequest_of_takes p kind tag take h (((s.role p).permits_iff kind).2 (.inl read))

/-! ## POLL and PORT_STATUS (R177, R178) -/

section
variable {s : State} {p : PortId}

/-- A receiver that hunts again is all that a heard frame has changed of any port (R171). -/
theorem State.hunt_port_eq (s : State) (p q : PortId) :
    ∃ r : Receiver, (s.hunt p).ports[q] = { s.ports[q] with receiver := r } := by
  by_cases same : q = p
  · rw [same, Fin.getElem_fin, State.hunt_port]
    exact ⟨_, rfl⟩
  · rw [State.hunt, State.setPort_other s p q _ same]
    exact ⟨_, rfl⟩

theorem answerPoll_of_notice {n : Notice} {rest : List Notice} (half : (s.ports[p]).inForce.duplex = .half)
    (queue : (s.ports[p]).queue = n :: rest) : answerPoll p s =
      ⟨s.setPort p { s.ports[p] with queue := rest }, .ok, .poll (some n) rest.length⟩ := by
  simp only [answerPoll, half, queue]

theorem answerPoll_of_nothing (nothing : (s.ports[p]).inForce.duplex = .full ∨ (s.ports[p]).queue = []) :
    answerPoll p s = ⟨s, .ok, .poll none (s.ports[p]).queue.length⟩ := by
  rcases nothing with full | empty
  · simp only [answerPoll, full]
  · cases duplex : (s.ports[p]).inForce.duplex <;> simp only [answerPoll, duplex, empty]

/-- A byte that names no port (R178). -/
theorem portOf_above {b : Byte} (above : 3 < b.toNat) : portOf b = none := dif_neg (by omega)

theorem portOf_eq {b : Byte} {q : PortId} (h : q.val = b.toNat) : portOf b = some q := by
  have bound := q.isLt
  rw [portOf, dif_pos (by omega)]
  exact congrArg some (Fin.ext h.symm)

end

/-- PORT_STATUS by the port it names and by its clear flag (R178). -/
theorem answerPortStatus_eq (named clear : Byte) (s : State) :
    (3 < named.toNat → answerPortStatus named clear s = s.refuse .noSuch) ∧
    ∀ q : PortId, q.val = named.toNat →
      (1 < clear.toNat → answerPortStatus named clear s = s.refuse .format) ∧
      (clear.toNat ≤ 1 → answerPortStatus named clear s =
        ⟨if clear = 1 then s.setPort q { s.ports[q] with counts := ⟨0, 0, 0, 0⟩ } else s, .ok,
          .portStatus (s.ports[q]).report⟩) := by
  refine ⟨fun above => ?_, fun q same => ⟨fun above => ?_, fun low => ?_⟩⟩
  · simp only [answerPortStatus, portOf_above above]
  · simp only [answerPortStatus, portOf_eq same, switchOf_none clear above]
  · simp only [answerPortStatus, portOf_eq same, switchOf_low low, beq_iff_eq]
    rfl

/-- Settles O15: both requests are every role's, and a receiver that hunts again changes nothing of what they report. -/
theorem pollAndPortStatusReport : Obligations.PollAndPortStatusReport := by
  refine ⟨fun p tag s hears => ?_, fun p tag named clear s hears => ?_⟩
  · intro h
    have taken : exec (.poll p tag) s = _ := State.actRequest_of_any hears 0x0B tag (answerPoll p) (by decide)
    obtain ⟨r, port⟩ := s.hunt_port_eq p p
    refine ⟨fun n rest half queue => ?_, fun nothing => ?_⟩
    · rw [taken, answerPoll_of_notice (n := n) (rest := rest) (by rw [port]; exact half) (by rw [port]; exact queue)]
    · rw [taken, answerPoll_of_nothing (by rw [port]; exact nothing), port]
  · intro h
    have taken : exec (.portStatus p tag named clear) s = _ :=
      State.actRequest_of_any hears 0x0A tag (answerPortStatus named clear) (by decide)
    obtain ⟨unnamed, reports⟩ := answerPortStatus_eq named clear h
    refine ⟨fun above => by rw [taken, unnamed above]; rfl, fun q same => ?_⟩
    obtain ⟨refused, reported⟩ := reports q same
    refine ⟨fun above => by rw [taken, refused above]; rfl, fun low => ?_⟩
    obtain ⟨r, port⟩ := s.hunt_port_eq p q
    have content : (h.ports[q]).report = (s.ports[q]).report := by rw [port]; rfl
    rw [taken, reported low, content]
    rfl

end Sys2Proof.Machine

namespace Sys2Proof.Machine

/-! ## READ_ITEM (R169, R180) -/

section
variable (s : State) (p : PortId)

theorem State.hunt_settings :
    (fun q : PortId => ((s.hunt p).ports[q]).written) = (fun q : PortId => (s.ports[q]).written) ∧
    (fun q : PortId => ((s.hunt p).ports[q]).inForce) = fun q : PortId => (s.ports[q]).inForce := by
  refine ⟨funext fun q => ?_, funext fun q => ?_⟩
  · obtain ⟨r, port⟩ := s.hunt_port_eq p q
    rw [port]
  · obtain ⟨r, port⟩ := s.hunt_port_eq p q
    rw [port]

/-- A receiver that hunts again leaves what every item reads. -/
theorem Item.read_hunt (i : Item) : i.read (s.hunt p) = i.read s := by
  simp only [Item.read, State.settingsImage_hunt, (s.hunt_settings p).1]
  rfl

theorem Item.readInForce_hunt (i : Item) : i.readInForce (s.hunt p) = i.readInForce s := by
  simp only [Item.readInForce, (s.hunt_settings p).2]
  rfl

end

/-- READ_ITEM of an item of the table, from any port (R180). -/
theorem exec_readItem_of_named {s : State} {p : PortId} {tag : Byte} {item : Half} {i : Item} (hears : s.Hears p)
    (named : Item.ofNumber item.toNat = some i) : exec (.readItem p tag item) s =
      .next ((s.hunt p).answered p 0x09 tag .ok (.item (i.read s) (i.readInForce s))) := by
  have taken : exec (.readItem p tag item) s = _ :=
    State.actRequest_of_any hears 0x09 tag (answerReadItem item) (by decide)
  rw [taken]
  simp only [answerReadItem, named, Item.read_hunt, Item.readInForce_hunt]

/-- The numbers of the calibration items and of the ports' roles (R180). -/
theorem Item.ofNumber_ranges :
    (∀ c : Channel, Item.ofNumber (1 + c.val) = some (.numeric (.offset c))) ∧
    (∀ c : Channel, Item.ofNumber (9 + c.val) = some (.numeric (.gain c))) ∧
    ∀ q : PortId, Item.ofNumber (116 + q.val) = some (.role q) := by decide

/-- Settles O18: each number of the statement names its item, whose reading is the value stated. -/
theorem readItemGivesTheAcceptedValue : Obligations.ReadItemGivesTheAcceptedValue := by
  intro p tag item s hears h gives
  obtain ⟨offsets, gains, roles⟩ := Item.ofNumber_ranges
  have reads (i : Item) (named : Item.ofNumber item.toNat = some i) {value : Nat} {inForce : Option Nat}
      (read : i.read s = value) (read' : i.readInForce s = inForce) : gives value inForce := by
    rw [← read, ← read']
    exact exec_readItem_of_named hears named
  refine ⟨fun unnamed => ?_, fun i named => reads i named rfl rfl, fun c number => ?_, fun c number => ?_,
    fun number => ?_, fun number => ?_, fun number => ?_, fun number => ?_, fun number => ?_, fun number => ?_,
    fun number => ?_, fun number => ?_, fun q number => ?_, fun number => ?_, fun number => ?_, fun number => ?_⟩
  · have taken : exec (.readItem p tag item) s = _ :=
      State.actRequest_of_any hears 0x09 tag (answerReadItem item) (by decide)
    rw [taken]
    simp only [answerReadItem, unnamed]
    rfl
  · exact reads (.numeric (.offset c)) (by rw [number, offsets]) rfl rfl
  · exact reads (.numeric (.gain c)) (by rw [number, gains]) rfl rfl
  · exact reads .sweepPeriod (by rw [number]; rfl) rfl rfl
  · exact reads (.numeric .vLoss) (by rw [number]; rfl) rfl rfl
  · exact reads (.numeric .iFeedDefault) (by rw [number]; rfl) rfl rfl
  · exact reads .framePeriod (by rw [number]; rfl) rfl rfl
  · exact reads (.numeric .iBatMax) (by rw [number]; rfl) rfl rfl
  · exact reads (.numeric .holdFrames) (by rw [number]; rfl) rfl rfl
  · exact reads (.numeric .shedFrames) (by rw [number]; rfl) rfl rfl
  · exact reads .autoRun (by rw [number]; rfl) rfl rfl
  · exact reads (.role q) (by rw [number, roles]) rfl rfl
  · exact reads (.readOnly .resetCause) (by rw [number]; rfl) rfl rfl
  · exact reads (.readOnly .imageState) (by rw [number]; rfl) rfl rfl
  · exact reads (.readOnly .saveInFlight) (by rw [number]; rfl) rfl rfl

end Sys2Proof.Machine

namespace Sys2Proof.Machine

/-! ## Parity (R170) -/

theorem oddOnes_cons (y : Bool) (bits : List Bool) : oddOnes (y :: bits) = xor y (oddOnes bits) := by
  have moved := List.foldl_assoc (op := xor) (l := bits) (a₁ := y) (a₂ := false)
  rw [Bool.xor_false] at moved
  rw [oddOnes, oddOnes, List.foldl_cons, Bool.false_xor, moved]

theorem oddOnes_append_one (bits : List Bool) (x : Bool) : oddOnes (bits ++ [x]) = xor (oddOnes bits) x := by
  simp [oddOnes]

/-- The ones of some bits are odd in number where their parity is (R170). -/
theorem oddOnes_eq (bits : List Bool) : oddOnes bits = decide (bits.count true % 2 = 1) := by
  induction bits with
  | nil => rfl
  | cons y bits ih =>
    rw [oddOnes_cons, ih]
    cases y with
    | false => simp
    | true => rcases Nat.mod_two_eq_zero_or_one (bits.count true) with e | e <;> simp [Nat.add_mod, e]

/-- A change within the first of two lists. -/
theorem modify_append_of_lt {α : Type} (f : α → α) (l r : List α) (k : Nat) (h : k < l.length) :
    (l ++ r).modify k f = l.modify k f ++ r := by
  induction l generalizing k with
  | nil => simp at h
  | cons x l ih =>
    cases k with
    | zero => simp only [List.cons_append, List.modify_zero_cons]
    | succ k => simp only [List.cons_append, List.modify_succ_cons, ih k (by simpa using h)]

/-- One bit inverted changes whether the ones are odd. -/
theorem oddOnes_modify (bits : List Bool) (k : Nat) (h : k < bits.length) :
    oddOnes (bits.modify k not) = !oddOnes bits := by
  induction bits generalizing k with
  | nil => simp at h
  | cons y bits ih =>
    cases k with
    | zero => rw [List.modify_zero_cons, oddOnes_cons, oddOnes_cons, Bool.not_xor]
    | succ k => rw [List.modify_succ_cons, oddOnes_cons, oddOnes_cons, ih k (by simpa using h), Bool.xor_not]

/-- Only parity none calls for no parity bit (R170). -/
theorem Parity.bitFor_some {parity : Parity} (h : parity ≠ .none) (data : List Bool) :
    ∃ x, parity.bitFor data = some x := by
  cases parity with
  | none => exact absurd rfl h
  | even | odd => exact ⟨_, rfl⟩

/-- One data bit inverted inverts the parity bit that the data call for (R170). -/
theorem Parity.bitFor_modify {parity : Parity} {data : List Bool} {y : Bool} (h : parity.bitFor data = some y)
    (k : Nat) (hk : k < data.length) : parity.bitFor (data.modify k not) = some !y := by
  cases parity <;> cases h <;> simp only [Parity.bitFor, oddOnes_modify data k hk]

/-! ## Characters (R170, R171) -/

/-- The data bits of a byte, read as one, are the byte (R170). -/
theorem ofBoolListLE_dataBits (b : Byte) : BitVec.ofBoolListLE (dataBits b) = b := by
  refine BitVec.eq_of_getLsbD_eq fun i hi => ?_
  have bound : i < 8 := hi
  rw [BitVec.getLsbD_ofBoolListLE]
  simp only [dataBits, List.getD_eq_getElem?_getD, List.getElem?_map, List.getElem?_range bound]
  rfl

theorem Polarity.level_level (polarity : Polarity) (x : Bool) : polarity.level (polarity.level x) = x := by
  cases polarity <;> simp [Polarity.level]

theorem Polarity.level_not (polarity : Polarity) (x : Bool) : polarity.level (!x) = !polarity.level x := by
  cases polarity <;> simp [Polarity.level]

/-- A receiver of the same settings reads the bits that the levels were made of (R170). -/
theorem characterLevels_read (set : PortSettings) (b : Byte) :
    (characterLevels set b).map set.polarity.level = set.parity.character b := by
  rw [characterLevels, List.map_map]
  exact (List.map_congr_left fun x _ => set.polarity.level_level x).trans (List.map_id _)

/-- One wrong level is one wrong bit (R170). -/
theorem characterLevels_modify_read (set : PortSettings) (b : Byte) (k : Nat) :
    ((characterLevels set b).modify k not).map set.polarity.level = (set.parity.character b).modify k not := by
  rw [← characterLevels_read]
  apply List.ext_getElem?
  intro i
  simp only [List.getElem?_map, List.getElem?_modify]
  cases (characterLevels set b)[i]? with
  | none => rfl
  | some x => by_cases same : k = i <;> simp [same, Polarity.level_not]

/-- The bits of a character, with the parity bit that its data call for and without one (R170). -/
theorem Parity.character_of_bit {parity : Parity} {b : Byte} {x : Bool} (h : parity.bitFor (dataBits b) = some x) :
    parity.character b = false :: (dataBits b ++ [x, true]) := by
  simp [Parity.character, h]

theorem Parity.character_of_none (b : Byte) : Parity.none.character b = false :: (dataBits b ++ [true]) := by
  simp [Parity.character, Parity.bitFor]

/-- What a receiver reads from a start bit, eight data bits, a parity bit and a stop bit: an error where the parity bit
is not the one called for or the stop bit is not 1 (R171). -/
theorem readCharacter_of_bits (set : PortSettings) (levels data : List Bool) (x y stop : Bool) (eight : data.length = 8)
    (bits : levels.map set.polarity.level = false :: (data ++ [x, stop])) (calls : set.parity.bitFor data = some y) :
    ∃ c : Byte, readCharacter set levels = some (c, x != y || !stop) ∧ ∀ b, data = dataBits b → c = b := by
  match data, eight with
  | [d0, d1, d2, d3, d4, d5, d6, d7], _ =>
    refine ⟨BitVec.ofBoolListLE [d0, d1, d2, d3, d4, d5, d6, d7], ?_, fun b same => ?_⟩
    · simp only [readCharacter, bits, List.cons_append, List.nil_append]
      cases parity : set.parity <;> rw [parity] at calls <;> cases calls
      · rfl
      · cases x <;> simp
    · cases (show [d0, d1, d2, d3, d4, d5, d6, d7] = [b.getLsbD 0, b.getLsbD 1, b.getLsbD 2, b.getLsbD 3, b.getLsbD 4,
        b.getLsbD 5, b.getLsbD 6, b.getLsbD 7] from same)
      exact ofBoolListLE_dataBits b

/-- What a receiver reads at parity none (R171). -/
theorem readCharacter_of_bare_bits (set : PortSettings) (levels : List Bool) (b : Byte) (stop : Bool)
    (bits : levels.map set.polarity.level = false :: (dataBits b ++ [stop])) (bare : set.parity = .none) :
    readCharacter set levels = some (b, !stop) := by
  have read : BitVec.ofBoolListLE [b.getLsbD 0, b.getLsbD 1, b.getLsbD 2, b.getLsbD 3, b.getLsbD 4, b.getLsbD 5,
    b.getLsbD 6, b.getLsbD 7] = b := ofBoolListLE_dataBits b
  rw [show dataBits b = [b.getLsbD 0, b.getLsbD 1, b.getLsbD 2, b.getLsbD 3, b.getLsbD 4, b.getLsbD 5, b.getLsbD 6,
    b.getLsbD 7] from rfl] at bits
  simp only [readCharacter, bits, bare, List.cons_append, List.nil_append]
  exact congrArg (fun c => some (c, !stop)) read

/-- A character with a parity bit, one of whose levels after the start bit is wrong: a data bit, which the parity bit
then does not fit, the parity bit itself, or the stop bit (R170, R171). -/
theorem readCharacter_of_wrong_level (set : PortSettings) (b : Byte) (parity : set.parity ≠ .none) (k : Nat)
    (least : 1 ≤ k) (most : k ≤ 10) :
    ∃ c, readCharacter set ((characterLevels set b).modify k not) = some (c, true) := by
  obtain ⟨y, calls⟩ := Parity.bitFor_some parity (dataBits b)
  have eight : (dataBits b).length = 8 := rfl
  have bits : ((characterLevels set b).modify k not).map set.polarity.level =
      false :: ((dataBits b ++ [y, true]).modify (k - 1) not) := by
    rw [characterLevels_modify_read, Parity.character_of_bit calls, List.modify_cons, if_neg (by omega)]
  obtain data | rfl | rfl : k - 1 < 8 ∨ k = 9 ∨ k = 10 := by omega
  · obtain ⟨c, read, -⟩ := readCharacter_of_bits set _ ((dataBits b).modify (k - 1) not) y (!y) true
      (by rw [List.length_modify, eight]) (bits.trans (by
        rw [modify_append_of_lt _ _ _ _ data])) (Parity.bitFor_modify calls _ data)
    exact ⟨c, by simpa using read⟩
  · obtain ⟨c, read, -⟩ := readCharacter_of_bits set _ (dataBits b) (!y) y true eight bits calls
    exact ⟨c, by simpa using read⟩
  · obtain ⟨c, read, -⟩ := readCharacter_of_bits set _ (dataBits b) y y false eight bits calls
    exact ⟨c, by simpa using read⟩

/-! ## The end of a transmission and the transmitter's choice (R173, R176, R177) -/

/-- A reply other than that of an accepted RESET starts no reset (R166). -/
theorem Reply.startsReset_false {r : Reply} (other : ¬(r.kind = 0x31 ∧ r.code = .ok)) : r.startsReset = false := by
  simpa [Reply.startsReset] using other

theorem exec_transmitComplete {s : State} (p : PortId) (up : s.up = true) :
    exec (.transmitComplete p) s = .next (s.transmitted p).beginWaiting :=
  s.act_of_up (fun s => s.transmitted p) up

/-! ## Joining a queue (R175) -/

/-- A notice whose kind does not wait joins the queue at its end (R175). -/
theorem enqueue_of_new {n : Notice} {q : List Notice} (new : n.kind ∉ q.map Notice.kind) :
    enqueue n q = q ++ [n] := by
  induction q with
  | nil => rfl
  | cons m q ih =>
    rw [List.map_cons, List.mem_cons, not_or] at new
    rw [enqueue, if_neg fun same => new.1 same.symm, ih new.2, List.cons_append]

/-- A notice whose kind waits is taken in by that entry, in its place (R175). -/
theorem enqueue_of_waiting {n m : Notice} {a b : List Notice} (first : n.kind ∉ a.map Notice.kind)
    (waits : m.kind = n.kind) : enqueue n (a ++ m :: b) = a ++ m.takeIn n :: b := by
  induction a with
  | nil => rw [List.nil_append, enqueue, if_pos waits, List.nil_append]
  | cons x a ih =>
    rw [List.map_cons, List.mem_cons, not_or] at first
    rw [List.cons_append, enqueue, if_neg fun same => first.1 same.symm, ih first.2, List.cons_append]

/-- An entry of another kind than EVENT takes the new content (R175). -/
theorem Notice.takeIn_of_other {m n : Notice} (other : n.kind ≠ .event) : m.takeIn n = n := by
  cases n with
  | event => exact absurd rfl other
  | _ => cases m <;> rfl

/-! ## The frames of notices (R181) -/

/-- The fields of an ALLOTMENT notice take 56 bytes (R181). -/
theorem Record.payload_length (r : Record) : r.payload.length = 56 := by
  have two (n : Int) : (fieldBytes n).length = 2 := rfl
  have four (w : BitVec 32) : (wordBytes w).length = 4 := rfl
  simp [Record.payload, Record.fields, two, four]

/-- A notice's payload fits a frame of 63 bytes with its header, length and check byte (R171, R181). -/
theorem Notice.payload_length (n : Notice) : n.payload.length ≤ 58 := by
  cases n with
  | allotment r => exact (r.payload_length).le.trans (by decide)
  | _ => exact List.length_take_le _ _

section
variable {port : Port}

theorem Port.sent_of_notice {n : Notice} (sending : port.tx = some (.notice n)) :
    port.headerSent = some n.header ∧ port.frameSent = some n.frameBytes := by
  simp only [Port.headerSent, Port.frameSent, sending, and_self]

theorem Port.sent_of_part {r : ReplySlot} (sending : port.tx = some .replyPart) (held : port.slot = some r) :
    port.headerSent = some r.header ∧ port.frameSent = some r.frameBytes := by
  simp only [Port.headerSent, Port.frameSent, sending, held, and_self]

end

/-! ## The parts of a reply (R173, log 6) -/

/-- The slices that a reply's content is sent in (R173). -/
def ReplyContent.slices (c : ReplyContent) (n : Nat) : List (List Byte) := cutParts (Config.partLength c) n c.bytes

theorem ReplyContent.bytes_eq (c : ReplyContent) : c.bytes = if c = .none then [] else Config.contentBytes c := by
  cases c with
  | none => rfl
  | _ => exact (if_neg (by nofun)).symm

/-- Joined, the slices are the content, as far as that many frames hold it (R173). -/
theorem ReplyContent.slices_flatten (c : ReplyContent) (n : Nat) :
    (c.slices n).flatten = (if c = .none then [] else Config.contentBytes c).take (56 * n) := by
  rw [ReplyContent.slices, cutParts_flatten, ReplyContent.bytes_eq]

/-- The part that is next in a slot is the slice of its index, after its header (R173, R181). -/
theorem ReplySlot.frameBytes_eq (r : ReplySlot) :
    r.frameBytes = frameOf (r.header ++ ((r.reply.content.slices r.parts)[r.sent]?).getD []) := by
  rw [ReplySlot.frameBytes, ReplySlot.partBytes, List.getD_eq_getElem?_getD, ReplyContent.slices]

/-- A content that fits one frame is sent in one part (R173). -/
theorem Reply.parts_of_fits {r : Reply}
    (fits : r.content.isShort = true ∨ (Config.contentBytes r.content).length ≤ 56) : r.parts = 1 := by
  have one : (r.content.isShort ||
      decide (min (15 * frameRoom) (Config.contentBytes r.content).length ≤ frameRoom)) = true := by
    rw [Bool.or_eq_true, decide_eq_true_eq]
    exact fits.imp_right (min_le_of_right_le ·)
  exact if_pos one

/-- A content longer than a frame is sent in no fewer parts than hold it, as far as 15 do, and in 15 at most (R173). -/
theorem Reply.parts_of_long {r : Reply} (long : r.content.isShort = false)
    (exceeds : 56 < (Config.contentBytes r.content).length) :
    1 ≤ r.parts ∧ r.parts ≤ 15 ∧ min (Config.contentBytes r.content).length 840 ≤ 56 * r.parts := by
  have many : ¬(r.content.isShort ||
      decide (min (15 * frameRoom) (Config.contentBytes r.content).length ≤ frameRoom)) = true := by
    rw [long, Bool.false_or, decide_eq_true_eq, frameRoom]
    omega
  have cut : r.parts =
      clampNat ((min (15 * frameRoom) (Config.contentBytes r.content).length + (frameRoom - 1)) / frameRoom) 15
        (Config.replyParts r.content) := if_neg many
  rw [cut, clampNat, frameRoom]
  omega

/-- No content, a POLL answer with no notice and an ALARMS answer with no entry are short (log 6). -/
theorem ReplyContent.isShort_of_plain {c : ReplyContent}
    (h : c = .none ∨ (∃ n, c = .poll .none n) ∨ (∃ n, c = .alarms n .none)) : c.isShort = true := by
  obtain rfl | ⟨n, rfl⟩ | ⟨n, rfl⟩ := h <;> rfl

/-! ## The levels of a character (R170) -/

section
variable {set : PortSettings}

/-- With normal polarity the levels are the bits (R170). -/
theorem characterLevels_of_normal (normal : set.polarity = .normal) (b : Byte) :
    characterLevels set b = set.parity.character b := by
  rw [characterLevels, normal]
  exact List.map_id _

/-- Inverted polarity inverts every level (R170). -/
theorem characterLevels_of_inverted (inverted : set.polarity = .inverted) (b : Byte) :
    characterLevels set b = (characterLevels { set with polarity := .normal } b).map not := by
  rw [characterLevels_of_normal (set := { set with polarity := .normal }) rfl, characterLevels, inverted]
  rfl

/-- The parity bit makes the ones of the data and itself even, or odd (R170). -/
theorem Parity.bitFor_ones {parity : Parity} {data : List Bool} {x : Bool} (h : parity.bitFor data = some x) :
    (data ++ [x]).count true % 2 = if parity = .odd then 1 else 0 := by
  have odd := oddOnes_eq (data ++ [x])
  rw [oddOnes_append_one] at odd
  cases parity with
  | none => cases h
  | even =>
    cases h
    rw [Bool.xor_self, eq_comm, decide_eq_false_iff_not] at odd
    simpa using odd
  | odd =>
    cases h
    rw [Bool.xor_not, Bool.xor_self, Bool.not_false, eq_comm, decide_eq_true_eq] at odd
    simpa using odd

/-- A receiver of the same settings reads the byte, without error (R170). -/
theorem readCharacter_of_character (set : PortSettings) (b : Byte) :
    readCharacter set (characterLevels set b) = some (b, false) := by
  by_cases bare : set.parity = .none
  · exact readCharacter_of_bare_bits set _ b true
      ((characterLevels_read set b).trans (bare ▸ Parity.character_of_none b)) bare
  · obtain ⟨x, calls⟩ := Parity.bitFor_some bare (dataBits b)
    obtain ⟨c, read, same⟩ := readCharacter_of_bits set _ (dataBits b) x x true rfl
      ((characterLevels_read set b).trans (Parity.character_of_bit calls)) calls
    rw [read, same b rfl]
    simp

/-- At parity none a wrong stop bit is the one wrong level that a receiver sees as an error (R171). -/
theorem readCharacter_of_wrong_stop (bare : set.parity = .none) (b : Byte) :
    readCharacter set ((characterLevels set b).modify 9 not) = some (b, true) :=
  readCharacter_of_bare_bits set _ b false
    ((characterLevels_modify_read set b 9).trans (by rw [bare, Parity.character_of_none]; rfl)) bare

/-- The levels of a character with a parity bit, at normal polarity (R170). -/
theorem characterLevels_of_parity (normal : set.polarity = .normal) (parity : set.parity ≠ .none) (b : Byte) :
    ∃ x, characterLevels set b = false :: dataBits b ++ [x, true] ∧
      (dataBits b ++ [x]).count true % 2 = if set.parity = .odd then 1 else 0 := by
  obtain ⟨x, calls⟩ := Parity.bitFor_some parity (dataBits b)
  exact ⟨x, (characterLevels_of_normal normal b).trans (Parity.character_of_bit calls), Parity.bitFor_ones calls⟩

end

/-! ## Transmission -/

/-- Settles O14: each clause by the lemmas about the function it speaks of. -/
theorem transmittersServeReplyAndQueue : Obligations.TransmittersServeReplyAndQueue := by
  refine ⟨fun p s up => ?_, fun p s => ?_, fun n q => ⟨enqueue_of_new, ?_⟩,
    ⟨fun port n sending => ?_, fun reply n => ?_, fun r => ?_⟩, fun set b => ?_⟩
  · rw [exec_transmitComplete p up]
    refine ⟨fun idle => ?_, fun n sending => ?_, fun r sending held => ⟨fun more => ?_, fun last other => ?_⟩⟩
    · rw [State.transmitted_of_idle idle]
    · rw [State.transmitted_of_notice sending]
    · rw [State.transmitted_of_part sending held, if_pos more]
    · rw [State.transmitted_of_part sending held, if_neg (by omega), Reply.startsReset_false other]
      rfl
  · have chosen : s.beginWaiting.ports[p] = (s.ports[p]).beginWaiting := s.beginWaiting_port p.val p.isLt
    rw [chosen]
    exact ⟨Port.beginWaiting_of_busy, Port.beginWaiting_of_reply,
      fun idle free full _ _ => Port.beginWaiting_of_notice idle free full, Port.beginWaiting_of_nothing⟩
  · rintro a m b rfl first waits
    rw [enqueue_of_waiting first waits]
    refine ⟨fun k e acted k' e' acted' old new => ?_, fun other => by rw [Notice.takeIn_of_other other]⟩
    rw [old, new]
    rfl
  · obtain ⟨header, frame⟩ := Port.sent_of_notice sending
    refine ⟨n.payload, header.trans (by cases n <;> rfl), frame.trans (by cases n <;> rfl), n.payload_length, ?_⟩
    rintro r rfl
    exact ⟨rfl, r.payload_length⟩
  · refine ⟨reply.content.slices n, cutParts_length _ _ _, cutParts_fit _ _ _, reply.content.slices_flatten n, ?_⟩
    intro port k sending held
    obtain ⟨header, frame⟩ := Port.sent_of_part sending held
    exact ⟨header, frame.trans (congrArg some (ReplySlot.frameBytes_eq _))⟩
  · have plain := fun h => Reply.parts_of_fits (r := r) (.inl (ReplyContent.isShort_of_plain h))
    by_cases fits : r.content.isShort = true ∨ (Config.contentBytes r.content).length ≤ 56
    · have one := Reply.parts_of_fits fits
      exact ⟨by omega, by omega, .inr one, plain, fits.imp_right fun _ => by omega⟩
    · rw [not_or, Bool.not_eq_true, not_le] at fits
      obtain ⟨least, most, hold⟩ := Reply.parts_of_long fits.1 fits.2
      exact ⟨least, most, .inl fits.2, plain, .inr hold⟩
  · refine ⟨fun normal bare => ?_, fun normal even => ?_, fun normal odd => ?_,
      fun inverted => characterLevels_of_inverted inverted b, readCharacter_of_character set b,
      readCharacter_of_wrong_level set b, fun bare => readCharacter_of_wrong_stop bare b⟩
    · exact (characterLevels_of_normal normal b).trans (bare ▸ Parity.character_of_none b)
    · obtain ⟨x, levels, ones⟩ := characterLevels_of_parity normal (by rw [even]; nofun) b
      exact ⟨x, levels, ones.trans (by rw [even]; rfl)⟩
    · obtain ⟨x, levels, ones⟩ := characterLevels_of_parity normal (by rw [odd]; nofun) b
      exact ⟨x, levels, ones.trans (by rw [odd]; rfl)⟩

end Sys2Proof.Machine
